-- ==== Sys2Proof/Word.lean ====
section
/-! DEFINITION. The two widths of the block (spec 00_scope.md R7): bytes and 16-bit words, both unsigned. -/

namespace Sys2Proof

/-- A `u8` (R7): eight bits, bit 0 least significant. -/
abbrev Byte := BitVec 8

/-- A `u16` (R7): sixteen bits, bit 0 least significant. -/
abbrev Word := BitVec 16

end Sys2Proof
end

