-- ==== Sys2Proof/Config.lean ====
section
/-! DEFINITION. The parameters of the block (spec 00_scope.md R6): the fixed constants, the reset values the spec gives
the configuration registers, the open parameters as a record that State carries, and the free values. -/

namespace Sys2Proof.Config

/-- CRC_POLY (R6, 43_crc16.md R150), in the right-shifting form. -/
abbrev crcPoly : Word := 0xA001

/-- CRC_INIT (R6, R150). -/
abbrev crcInit : Word := 0xFFFF

/-- FC_READ (R6): the function code of a holding-register read. -/
abbrev fcRead : Byte := 3

/-- FC_WRITE (R6): the function code of a single-register write. -/
abbrev fcWrite : Byte := 6

/-- EXC_FLAG (R6): the bit an exception response sets in the function code. -/
abbrev excFlag : Byte := 0x80

/-- MAX_COUNT (R6): the largest count of one read. -/
abbrev maxCount : Nat := 125

/-- The legal slave addresses (R6, 30_encoding.md R70): 1 to 247. -/
def slaveAddrLegal (a : Byte) : Bool := 1 ≤ a.toNat && a.toNat ≤ 247

/-- SLAVE_ADDR's default (R6), the reset value of CFG_SLAVE_ADDR (10_state.md R31). -/
def slaveAddrReset : Byte := 0x64

/-- MAP_RPM (R6), the reset value of CFG_MAP_RPM (R31). -/
def mapRpmReset : Word := 0x0015

/-- MAP_CURRENT (R6), the reset value of CFG_MAP_CURRENT (R31). -/
def mapCurrentReset : Word := 0x0016

/-- MAP_SET_SPEED (R6), the reset value of CFG_MAP_SET_SPEED (R31). -/
def mapSetSpeedReset : Word := 0x0001

/-- The OPEN parameters of R6 that an instruction or a register access uses: "the model takes it as a named argument".
They stand in State, so that a statement about every state is a statement about every value of them (log entry 2). -/
structure Params where
  /-- MAP_ENABLE, a register address or absent (41_master_operations.md R107). -/
  mapEnable : Option Word
  /-- MAP_DIRECTION, a register address or absent (R108). -/
  mapDirection : Option Word
  /-- MAP_BRAKE, a register address or absent (R109). -/
  mapBrake : Option Word
  /-- VAL_ENABLE_T, the wire value for `true` (R107). -/
  valEnableT : Word
  /-- VAL_ENABLE_F, the wire value for `false` (R107). -/
  valEnableF : Word
  /-- VAL_DIRECTION_T (R108). -/
  valDirectionT : Word
  /-- VAL_DIRECTION_F (R108). -/
  valDirectionF : Word
  /-- VAL_BRAKE_T (R109). -/
  valBrakeT : Word
  /-- VAL_BRAKE_F (R109). -/
  valBrakeF : Word
  /-- The width of CFG_TIMEOUT, which the spec does not fix (10_state.md R11; log entry 18). -/
  timeoutWidth : Nat
  deriving DecidableEq, Repr

/-- The parameters of `State.reset`: MAP_* absent, as R6 says ("default absent"); the VAL_* are meaningless then.
DESIGN CHOICE (log entries 2, 18): VAL_* zero, CFG_TIMEOUT 32 bits wide. -/
def paramsReset : Params :=
  { mapEnable := none, mapDirection := none, mapBrake := none
    valEnableT := 0, valEnableF := 0, valDirectionT := 0, valDirectionF := 0, valBrakeT := 0, valBrakeF := 0
    timeoutWidth := 32 }

/-- The value a host read returns where the spec says "any value": RDATA outside its validity and CFG_PROTOCOL_MAX
before it is written (93_implementation_defined.md U3, U8; log entry 4). Nothing is known of it. -/
opaque freeWord : Nat → Word

/-- The value a host read of CFG_TIMEOUT returns before it is written (93_implementation_defined.md U4; log entry 4). -/
opaque freeDuration : Nat → Nat

/-- The outcome of a call of `write_bytes` that the environment's list does not name (40_transport_adapter.md R92): `none` is
ok, `some k` a fault after `k` bytes. Nothing is known of it (log entry 22). -/
opaque freeFault : Nat → Option (Fin 9)

end Sys2Proof.Config
end

