-- ==== Sys2Proof/Syntax.lean ====
section
/-! DEFINITION. The instructions: one constructor per row of spec/opcode_table.json. The first nine are command words of the
host (30_encoding.md R60), the next two the request frames the block transmits (R62, R63), the last five the frames it
receives (R64 to R67). Operand bits the spec ignores are kept as fields (R73; log entry 20). -/

namespace Sys2Proof

/-- One instruction: a command, a request frame or a received frame (00_scope.md R5: "instruction, opcode"). -/
inductive Instr where
  /-- INITIALIZE (R102); both operands ignored. -/
  | initMaster (a b : Word)
  /-- READ_HOLDING_REGISTERS(start_address, count) (R103). -/
  | readHoldingRegisters (start count : Word)
  /-- WRITE_SINGLE_REGISTER(address, value) (R104). -/
  | writeSingleRegister (addr value : Word)
  /-- READ_MOTOR_TELEMETRY (R105); both operands ignored. -/
  | readMotorTelemetry (a b : Word)
  /-- SET_MOTOR_SPEED(value) (R106); `b` ignored. -/
  | setMotorSpeed (value b : Word)
  /-- SET_MOTOR_ENABLE (R107): bit 0 of `a` is the Boolean; the rest ignored. -/
  | setMotorEnable (a b : Word)
  /-- SET_MOTOR_DIRECTION (R108): bit 0 of `a` is the Boolean; the rest ignored. -/
  | setMotorDirection (a b : Word)
  /-- SET_MOTOR_BRAKE (R109): bit 0 of `a` is the Boolean; the rest ignored. -/
  | setMotorBrake (a b : Word)
  /-- Opcodes 8 to 15 (R71(a)): `low` is the opcode's lower three bits. -/
  | reservedOp (low : BitVec 3) (a b : Word)
  /-- The function-code-3 request frame (R62). -/
  | fc3Request (slave : Byte) (start count crc : Word)
  /-- The function-code-6 request frame (R63). -/
  | fc6Request (slave : Byte) (addr value crc : Word)
  /-- The function-code-3 normal response (R64), received when REQ_FC = 3. -/
  | fc3Response (slave byteCount : Byte) (values : List Word) (crc : Word)
  /-- The function-code-6 normal response (R65), received when REQ_FC = 6. -/
  | fc6Response (slave : Byte) (addr value crc : Word)
  /-- The exception response 0x83 (R66), received when REQ_FC = 3. -/
  | exceptionResponseFc3 (slave code : Byte) (crc : Word)
  /-- The exception response 0x86 (R66), received when REQ_FC = 6. -/
  | exceptionResponseFc6 (slave code : Byte) (crc : Word)
  /-- A received frame whose byte 1 is neither REQ_FC nor REQ_FC or 0x80 (R67, R184); `rest` are the bytes after byte 1. -/
  | otherFunctionByte (slave function : Byte) (rest : List Byte)
  deriving DecidableEq, Repr

end Sys2Proof
end

