-- ==== Sys2Proof/WellFormed.lean ====
section
/-! DEFINITION. Which instructions have an encoding: every command and request frame has one at every operand value; a received
frame must have one of the lengths of 30_encoding.md R75. Whether a command is ILL FORMED in the sense of R71 depends on the
state and is `commandIllFormed` in Machine/Operands.lean. -/

namespace Sys2Proof

/-- The lengths of a normal response (R75, 44_frame_codec.md R180): 8 for a write, `5 + 2n` with `n` from 1 to 125 for a
read. -/
def normalLength (len : Nat) : Bool :=
  len == 8 || (decide (7 ≤ len) && decide (len ≤ 255) && len % 2 == 1)

/-- The length R180 gives a response whose byte 1 is `function` and whose bytes after byte 1 number `rest`. -/
def responseLength (function : Byte) (rest : Nat) : Bool :=
  if function.getLsbD 7 then rest == 3 else normalLength (rest + 2)

/-- The instruction has an encoding. -/
def Instr.wellFormed : Instr → Bool
  | .initMaster _ _ => true
  | .readHoldingRegisters _ _ => true
  | .writeSingleRegister _ _ => true
  | .readMotorTelemetry _ _ => true
  | .setMotorSpeed _ _ => true
  | .setMotorEnable _ _ => true
  | .setMotorDirection _ _ => true
  | .setMotorBrake _ _ => true
  | .reservedOp _ _ _ => true
  | .fc3Request _ _ _ _ => true
  | .fc6Request _ _ _ _ => true
  | .fc3Response _ _ values _ => decide (1 ≤ values.length) && decide (values.length ≤ Config.maxCount)
  | .fc6Response _ _ _ _ => true
  | .exceptionResponseFc3 _ _ _ => true
  | .exceptionResponseFc6 _ _ _ => true
  | .otherFunctionByte _ function rest => responseLength function rest.length

/-- The request in flight under which a received frame has this class (R67): `fc` is REQ_FC. Commands and request frames are
classified without it. -/
def Instr.receivedUnder (fc : Byte) : Instr → Bool
  | .initMaster _ _ => true
  | .readHoldingRegisters _ _ => true
  | .writeSingleRegister _ _ => true
  | .readMotorTelemetry _ _ => true
  | .setMotorSpeed _ _ => true
  | .setMotorEnable _ _ => true
  | .setMotorDirection _ _ => true
  | .setMotorBrake _ _ => true
  | .reservedOp _ _ _ => true
  | .fc3Request _ _ _ _ => true
  | .fc6Request _ _ _ _ => true
  | .fc3Response _ _ _ _ => fc == Config.fcRead
  | .fc6Response _ _ _ _ => fc == Config.fcWrite
  | .exceptionResponseFc3 _ _ _ => fc == Config.fcRead
  | .exceptionResponseFc6 _ _ _ => fc == Config.fcWrite
  | .otherFunctionByte _ function _ => function != fc && function != (fc ||| Config.excFlag)

end Sys2Proof
end

