-- ==== Sys2Proof/Decode.lean ====
section
/-! DEFINITION. The encodings of spec 30_encoding.md: bytes and 16-bit fields (R68), the decoder of the three places where an
instruction appears (the command port R60, TXBUF R62 and R63, RXBUF R64 to R67), the encoder written from the same tables, and
the table's own numbering of an instruction's bits. -/

namespace Sys2Proof

/-! ## Bytes and 16-bit fields (R7, R68) -/

/-- `hi8(v) = v[15:8]` (R7). -/
def hi8 (v : Word) : Byte := v.extractLsb' 8 8

/-- `lo8(v) = v[7:0]` (R7). -/
def lo8 (v : Word) : Byte := v.extractLsb' 0 8

/-- `{hi, lo}` (R7): the 16-bit value with `hi` in the more significant position. -/
def joinBytes (hi lo : Byte) : Word := hi ++ lo

/-- The bytes of a list of register values, each high byte first (R64, R68(c)). -/
def wordBytes : List Word → List Byte
  | [] => []
  | w :: ws => hi8 w :: lo8 w :: wordBytes ws

/-! ## Where an instruction's words stand -/

/-- The words of an instruction, with the place they appear in: the command port, TXBUF, RXBUF. -/
inductive Code where
  | command (w : BitVec 36)
  | request (frame : List Byte)
  | response (frame : List Byte)
  deriving DecidableEq, Repr

/-- Why bytes are no instruction. -/
inductive DecodeError where
  /-- A request frame is not 8 bytes long (R62, R63). -/
  | requestLength
  /-- Byte 1 of a request frame is neither 3 nor 6 (R72). -/
  | requestFunction
  /-- A received frame has no length of R75. -/
  | receivedLength
  deriving DecidableEq, Repr

/-! ## Decoding -/

/-- The command word `{OP[3:0], A[15:0], B[15:0]}` (R60). Every word decodes. -/
def decodeCommand (w : BitVec 36) : Instr :=
  let a := w.extractLsb' 16 16
  let b := w.extractLsb' 0 16
  match (w.extractLsb' 32 4).toNat with
  | 0 => .initMaster a b
  | 1 => .readHoldingRegisters a b
  | 2 => .writeSingleRegister a b
  | 3 => .readMotorTelemetry a b
  | 4 => .setMotorSpeed a b
  | 5 => .setMotorEnable a b
  | 6 => .setMotorDirection a b
  | 7 => .setMotorBrake a b
  | _ => .reservedOp (w.extractLsb' 32 3) a b

/-- A request frame (R62, R63): 8 bytes, function code 3 or 6, fields high byte first, CRC low byte first. -/
def decodeRequest : List Byte → Except DecodeError Instr
  | [slave, fc, ah, al, bh, bl, cl, ch] =>
    if fc = Config.fcRead then .ok (.fc3Request slave (joinBytes ah al) (joinBytes bh bl) (joinBytes ch cl))
    else if fc = Config.fcWrite then .ok (.fc6Request slave (joinBytes ah al) (joinBytes bh bl) (joinBytes ch cl))
    else .error .requestFunction
  | _ => .error .requestLength

/-- The register values and the CRC that follow the byte count of a function-code-3 response (R64). -/
def splitValues : List Byte → Option (List Word × Word)
  | [] => none
  | [_] => none
  | [cl, ch] => some ([], joinBytes ch cl)
  | h :: l :: x :: xs =>
    match splitValues (x :: xs) with
    | some (ws, c) => some (joinBytes h l :: ws, c)
    | none => none

/-- A function-code-3 normal response (R64), from the bytes after byte 1. -/
def decodeReadResponse (slave : Byte) : List Byte → Except DecodeError Instr
  | [] => .error .receivedLength
  | count :: body =>
    match splitValues body with
    | some (ws, c) =>
      if 1 ≤ ws.length ∧ ws.length ≤ Config.maxCount then .ok (.fc3Response slave count ws c)
      else .error .receivedLength
    | none => .error .receivedLength

/-- A function-code-6 normal response (R65), from the bytes after byte 1. -/
def decodeWriteResponse (slave : Byte) : List Byte → Except DecodeError Instr
  | [ah, al, vh, vl, cl, ch] => .ok (.fc6Response slave (joinBytes ah al) (joinBytes vh vl) (joinBytes ch cl))
  | _ => .error .receivedLength

/-- An exception response (R66), from the bytes after byte 1; `mk` is the row of the request in flight. -/
def decodeException (mk : Byte → Word → Instr) : List Byte → Except DecodeError Instr
  | [code, cl, ch] => .ok (mk code (joinBytes ch cl))
  | _ => .error .receivedLength

/-- A received frame under REQ_FC = `fc` (R67): the rows of the table in order, OTHER_FUNCTION_BYTE last. -/
def decodeResponse (fc : Byte) : List Byte → Except DecodeError Instr
  | [] => .error .receivedLength
  | [_] => .error .receivedLength
  | slave :: function :: rest =>
    if fc = Config.fcRead ∧ function = fc then decodeReadResponse slave rest
    else if fc = Config.fcWrite ∧ function = fc then decodeWriteResponse slave rest
    else if fc = Config.fcRead ∧ function = fc ||| Config.excFlag then
      decodeException (.exceptionResponseFc3 slave) rest
    else if fc = Config.fcWrite ∧ function = fc ||| Config.excFlag then
      decodeException (.exceptionResponseFc6 slave) rest
    else if responseLength function rest.length then .ok (.otherFunctionByte slave function rest)
    else .error .receivedLength

/-- The decoder of all three places; `fc` is REQ_FC, which only received frames look at. -/
def decode (fc : Byte) : Code → Except DecodeError Instr
  | .command w => .ok (decodeCommand w)
  | .request f => decodeRequest f
  | .response f => decodeResponse fc f

/-! ## Encoding -/

/-- A command word from its opcode and operands (R60). -/
def commandWord (op : BitVec 4) (a b : Word) : BitVec 36 := op ++ a ++ b

/-- The layout of an 8-byte frame (R62, R63, R65). -/
def frame8 (slave fc : Byte) (a b crc : Word) : List Byte :=
  [slave, fc, hi8 a, lo8 a, hi8 b, lo8 b, lo8 crc, hi8 crc]

/-- The layout of an exception response (R66). -/
def frame5 (slave function code : Byte) (crc : Word) : List Byte := [slave, function, code, lo8 crc, hi8 crc]

/-- The layout of a function-code-3 response (R64). -/
def readFrame (slave byteCount : Byte) (values : List Word) (crc : Word) : List Byte :=
  slave :: Config.fcRead :: byteCount :: (wordBytes values ++ [lo8 crc, hi8 crc])

/-- The words of an instruction. -/
def encode : Instr → Code
  | .initMaster a b => .command (commandWord 0 a b)
  | .readHoldingRegisters start count => .command (commandWord 1 start count)
  | .writeSingleRegister addr value => .command (commandWord 2 addr value)
  | .readMotorTelemetry a b => .command (commandWord 3 a b)
  | .setMotorSpeed value b => .command (commandWord 4 value b)
  | .setMotorEnable a b => .command (commandWord 5 a b)
  | .setMotorDirection a b => .command (commandWord 6 a b)
  | .setMotorBrake a b => .command (commandWord 7 a b)
  | .reservedOp low a b => .command (commandWord (1#1 ++ low) a b)
  | .fc3Request slave start count crc => .request (frame8 slave Config.fcRead start count crc)
  | .fc6Request slave addr value crc => .request (frame8 slave Config.fcWrite addr value crc)
  | .fc3Response slave byteCount values crc => .response (readFrame slave byteCount values crc)
  | .fc6Response slave addr value crc => .response (frame8 slave Config.fcWrite addr value crc)
  | .exceptionResponseFc3 slave code crc => .response (frame5 slave (Config.fcRead ||| Config.excFlag) code crc)
  | .exceptionResponseFc6 slave code crc => .response (frame5 slave (Config.fcWrite ||| Config.excFlag) code crc)
  | .otherFunctionByte slave function rest => .response (slave :: function :: rest)

/-! ## The table's numbering of an instruction's bits -/

/-- The `n` bytes of the number `w` read big-endian, byte 0 (the first on the wire) most significant: how
spec/opcode_table.json numbers a frame's bits. -/
def bigEndianBytes : Nat → Nat → List Byte
  | 0, _ => []
  | n + 1, w => BitVec.ofNat 8 (w / 256 ^ n) :: bigEndianBytes n w

/-- REQ_FC for a received frame that is shown by its bits alone: the function code byte 1 names, without the exception flag,
where that is 3 or 6; else 3 (log entry 10). -/
def impliedFc (function : Byte) : Byte :=
  if function = Config.fcWrite ∨ function = (Config.fcWrite ||| Config.excFlag) then Config.fcWrite else Config.fcRead

/-- A received frame shown by its bits alone. -/
def decodeBareResponse (f : List Byte) : Option Instr :=
  (decodeResponse (impliedFc (f.getD 1 0)) f).toOption

/-- An 8-byte frame shown by its bits alone: a request where byte 0 is an address the block transmits (R70) or byte 1 is 3
(no response to a read is 8 bytes long), a received frame otherwise (log entry 10). -/
def decodeBareFrame8 (f : List Byte) : Option Instr :=
  if f.getD 1 0 = Config.fcRead ∨ (f.getD 1 0 = Config.fcWrite ∧ Config.slaveAddrLegal (f.getD 0 0)) then
    (decodeRequest f).toOption
  else decodeBareResponse f

/-- The instruction read from the bits `w` of a row of spec/opcode_table.json, numbered as the table numbers them: a command
word as the number of R60, a frame as one big-endian number. The row tells by its width where the words stand; where two rows
share a width, log entry 10 says which is taken. Rows of 16 bits show bytes 0 and 1 only and the bytes after them are 0. -/
def decodeTableWord (nbits w : Nat) : Option Instr :=
  if nbits ≤ 16 then
    let f := bigEndianBytes 2 w
    let function := f.getD 1 0
    let rest := if function = Config.fcRead then 5 else if function.getLsbD 7 then 3 else 6
    decodeBareResponse (f ++ List.replicate rest 0)
  else if nbits = 40 then
    let f := bigEndianBytes 5 w
    let function := f.getD 1 0
    if function = (Config.fcRead ||| Config.excFlag) ∨ function = (Config.fcWrite ||| Config.excFlag) then
      decodeBareResponse f
    else if w < 2 ^ 36 then some (decodeCommand (BitVec.ofNat 36 w))
    else decodeBareResponse f
  else if nbits < 40 then
    if w < 2 ^ 36 then some (decodeCommand (BitVec.ofNat 36 w)) else none
  else if nbits = 64 then decodeBareFrame8 (bigEndianBytes 8 w)
  else if nbits % 8 = 0 ∧ nbits ≤ 2040 then decodeBareResponse (bigEndianBytes (nbits / 8) w)
  else none

end Sys2Proof
end

