-- ==== Sys2Proof/Machine/State.lean ====
section
/-! DEFINITION. The state of the machine as plain data: the block's state (spec 10_state.md R10), the open parameters
(00_scope.md R6), the host's and the environment's choices still to come (R9, 40_transport_adapter.md R96), and the two
observations (the wire trace of R9 and the answers of the host port). Reset is 10_state.md R31. -/

namespace Sys2Proof.Machine

/-! ## Named values -/

/-- The eight values of STATE (R14), the block's program counter. -/
inductive SeqState where
  | idle | buildFrame | transmit | flushTransmit | receive | awaitResponse | validate | errorReported
  deriving DecidableEq, Repr

/-- The level of the direction line DIR (R15): HIGH means Transmit, LOW means Receive. -/
inductive Level where
  | low | high
  deriving DecidableEq, Repr

/-- The operand of `set_direction` (40_transport_adapter.md R90). -/
inductive Mode where
  | transmit | receive
  deriving DecidableEq, Repr

/-- The values of KIND that are ever produced (R25, 60_exceptions.md R200). -/
inductive Kind where
  | success | ioError | timeout | crcMismatch | exceptionResponse | echoMismatch
  deriving DecidableEq, Repr

/-- The five failure kinds (60_exceptions.md R200); an exception response carries the slave's code (R204). -/
inductive ErrorKind where
  | ioError | timeout | crcMismatch
  | exceptionResponse (code : Byte)
  | echoMismatch
  deriving DecidableEq, Repr

/-- `Success(payload)` or `Failure(ErrorKind)` (R28, 30_encoding.md R81); the payload of a write is the empty list. -/
inductive TransactionResult where
  | success (payload : List Word)
  | failure (kind : ErrorKind)
  deriving DecidableEq, Repr

/-- `MotorTelemetry` (R27). -/
structure MotorTelemetry where
  rpm : Word
  current : Word
  deriving DecidableEq, Repr

/-! ## Observations -/

/-- An event of the wire trace (00_scope.md R9(a)). -/
inductive WireEvent where
  | dir (level : Level)
  | tx (b : Byte)
  | flushed
  | rx (b : Byte)
  | timeout
  | txFault
  deriving DecidableEq, Repr

/-- What the host port answers: a command is accepted (41_master_operations.md R100) or refused (R101), a register read
returns data (R23). -/
inductive Reply where
  | accepted
  | refused
  | data (number value : Nat)
  deriving DecidableEq, Repr

/-! ## Choices still to come -/

/-- A precondition of 70_reset_and_hazards.md R250 that an outside agent can break. -/
inductive Violation where
  /-- R250(a), R253: something else drives the direction line or writes to the serial channel. -/
  | foreignDriver
  /-- R250(b), R254: another master transmits on the bus. -/
  | secondMaster
  /-- R250(e): the clock is not monotonic. -/
  | clockNotMonotonic
  deriving DecidableEq, Repr

/-- What happens outside the sequencer between two of its steps (log entry 1). -/
inductive Action where
  /-- The host presents a command word (30_encoding.md R60). -/
  | command (w : BitVec 36)
  /-- The host writes a register (10_state.md R12); a value too wide is cut to the register's width. -/
  | writeReg (number value : Nat)
  /-- The host reads a register (R23). -/
  | readReg (number : Nat)
  /-- Reset is asserted (70_reset_and_hazards.md R240, R241); `sent` says how many bytes of the frame had left if a
  `write_bytes` was going on (93_implementation_defined.md U18). -/
  | reset (sent : Fin 9)
  /-- The host does nothing: the block takes one step. -/
  | letRun
  /-- The host waits until STATUS.CMD_READY = 1 (R263): the block takes a step while STATE is not IDLE. -/
  | awaitReady
  /-- An outside agent breaks a precondition (R250). -/
  | violation (v : Violation)
  deriving DecidableEq, Repr

/-- The outcome of one `write_bytes` (40_transport_adapter.md R92): ok, or a fault after `sent` bytes. -/
inductive WriteOutcome where
  | ok
  | fault (sent : Fin 9)
  deriving DecidableEq, Repr

/-- What the block meets in the transport's receive path: a byte, or the end of the response window (R94). -/
inductive ReceiveEvent where
  | byte (b : Byte)
  | timeout
  deriving DecidableEq, Repr

/-- The environment's choices (R96): plain lists, so that a statement about every state is about every environment. -/
structure Env where
  /-- The outcomes of the next calls of `write_bytes` (R92); none left: each further outcome is free (log entry 22). -/
  writes : List WriteOutcome
  /-- How many FLUSHED indications are still to come (R93); 0: none comes (70_reset_and_hazards.md R262). -/
  flushes : Nat
  /-- The receive path, stale bytes included (R94, R256); none left: no byte comes any more, so an open window ends with
  TIMEOUT (R97(b), log entry 8). -/
  receive : List ReceiveEvent
  deriving DecidableEq, Repr

/-! ## The block's registers -/

/-- The configuration registers and their written flags (R11, R24). -/
structure Cfg where
  slaveAddr : Byte
  mapRpm : Word
  mapCurrent : Word
  mapSetSpeed : Word
  protocolMax : Word
  /-- CFG_TIMEOUT, a duration whose width the spec does not fix (log entry 18). -/
  timeout : Nat
  wrPmax : Bool
  wrTimeout : Bool
  deriving DecidableEq, Repr

/-- The request latches OP, REQ_FC, REQ_A, REQ_B (R16). -/
structure Latches where
  op : BitVec 4
  fc : Byte
  a : Word
  b : Word
  deriving DecidableEq, Repr

/-- The fields of RESULT (R25). -/
structure ResultReg where
  done : Bool
  kind : Kind
  rop : BitVec 4
  excCode : Byte
  rcount : Byte
  deriving DecidableEq, Repr

/-- RESULT with DONE = 0: every field reads as 0 (R25). -/
def ResultReg.cleared : ResultReg := { done := false, kind := .success, rop := 0, excCode := 0, rcount := 0 }

end Sys2Proof.Machine

namespace Sys2Proof.Machine

/-- The machine's state. From `cfg` to `rdata` it is the block's complete state (R10); `params` are the open parameters (R6);
`host` and `env` are the choices still to come; `trace` and `replies` are what has been observed; `freeCount` numbers the free
values drawn so far. -/
structure State where
  /-- R11, R24 -/
  cfg : Cfg
  /-- INIT, R13 -/
  init : Bool
  /-- STATE, R14 -/
  state : SeqState
  /-- DIR, R15 -/
  dir : Level
  /-- OP, REQ_FC, REQ_A, REQ_B, R16 -/
  req : Latches
  /-- TXBUF[0..7], R17 -/
  txbuf : Vector Byte 8
  /-- RXBUF[0..254], R18. DESIGN CHOICE (log entry 21): a byte at an index of RXCNT or more, which R18 gives no value, keeps
  its earlier contents. -/
  rxbuf : Vector Byte 255
  /-- RXCNT, R18 -/
  rxcnt : BitVec 8
  /-- RXEXP, R18. DESIGN CHOICE (log entry 21): until the second byte of a window is stored, where R128 gives it no value, it
  keeps its earlier contents. -/
  rxexp : BitVec 8
  /-- CRC, R19 -/
  crc : Word
  /-- WINDOW, R20 -/
  window : Bool
  /-- TXERR, R21 -/
  txErr : Bool
  /-- DONE, KIND, ROP, EXC_CODE, RCOUNT, R25 -/
  result : ResultReg
  /-- RDATA[0..124], R26; which words have a value is `State.rdataValid` -/
  rdata : Vector Word 125
  /-- the open parameters, 00_scope.md R6 -/
  params : Config.Params
  /-- what happens outside the sequencer next, oldest first (log entry 1) -/
  host : List Action
  /-- the transport's choices still to come (R96, log entry 8) -/
  env : Env
  /-- the wire trace, oldest event first (R9) -/
  trace : List WireEvent
  /-- the answers of the host port, oldest first -/
  replies : List Reply
  /-- the counter the free values are drawn with (log entries 4, 22) -/
  freeCount : Nat
  deriving DecidableEq, Repr

/-- Why the machine stops. -/
inductive Fault where
  /-- Raised by the step that meets an `Action.violation`: a precondition of R250 is broken and the spec says nothing about
  what follows. Safe: a run that stops here proves nothing about the hardware (log entry 13). -/
  | preconditionBroken (v : Violation)
  deriving DecidableEq, Repr

/-- Why an instruction or a fetch has no meaning. -/
inductive Refusal where
  /-- Raised by an arm of `exec` whose instruction has no meaning yet; no arm does. Safe. -/
  | notModelled (mnemonic : String)
  /-- Raised by the step in TRANSMIT when TXBUF holds no request frame and in VALIDATE when RXBUF[0..RXEXP] holds no frame of
  a length of R75. No reachable state does (log entry 11). Safe. -/
  | noFrame
  deriving DecidableEq, Repr

/-- The configuration registers after reset (R31). DESIGN CHOICE (log entry 3) for CFG_PROTOCOL_MAX and CFG_TIMEOUT, which
R31 leaves unspecified: 0. -/
def Cfg.reset : Cfg :=
  { slaveAddr := Config.slaveAddrReset, mapRpm := Config.mapRpmReset, mapCurrent := Config.mapCurrentReset
    mapSetSpeed := Config.mapSetSpeedReset, protocolMax := 0, timeout := 0, wrPmax := false, wrTimeout := false }

/-- The machine right after reset (R31, 70_reset_and_hazards.md R240), with nothing pending and nothing observed.
DESIGN CHOICE (log entry 3) for the registers R31 leaves unspecified: OP, REQ_FC, REQ_A, REQ_B, TXBUF, RXBUF, RXEXP, CRC and
RDATA hold 0. -/
def State.reset : State :=
  { cfg := Cfg.reset
    init := false
    state := .idle
    dir := .low
    req := { op := 0, fc := 0, a := 0, b := 0 }
    txbuf := Vector.replicate 8 0
    rxbuf := Vector.replicate 255 0
    rxcnt := 0
    rxexp := 0
    crc := 0
    window := false
    txErr := false
    result := ResultReg.cleared
    rdata := Vector.replicate 125 0
    params := Config.paramsReset
    host := []
    env := { writes := [], flushes := 0, receive := [] }
    trace := []
    replies := []
    freeCount := 0 }

end Sys2Proof.Machine
end

