-- ==== Sys2Proof/Machine/Flags.lean ====
section
/-! DEFINITION. The status and result registers as the host sees them (spec 10_state.md R22 to R28): views of the state, with
no storage of their own. -/

namespace Sys2Proof.Machine

/-- The 3-bit code of STATE (R14). -/
def SeqState.code : SeqState → BitVec 3
  | .idle => 0
  | .buildFrame => 1
  | .transmit => 2
  | .flushTransmit => 3
  | .receive => 4
  | .awaitResponse => 5
  | .validate => 6
  | .errorReported => 7

/-- The code of KIND (R25). -/
def Kind.code : Kind → BitVec 3
  | .success => 0
  | .ioError => 1
  | .timeout => 2
  | .crcMismatch => 3
  | .exceptionResponse => 4
  | .echoMismatch => 5

/-- DIR as a bit (R15): HIGH is 1. -/
def Level.bit : Level → Bool
  | .low => false
  | .high => true

/-- STATUS.BUSY (R22): 1 if and only if STATE is not IDLE. -/
def State.busy (s : State) : Bool := decide (s.state ≠ .idle)

/-- STATUS.CMD_READY (R22): 1 if and only if STATE is IDLE. -/
def State.cmdReady (s : State) : Bool := decide (s.state = .idle)

/-- STATUS, host register 16 (R22). -/
def State.statusWord (s : State) : BitVec 32 :=
  0#24 ++ BitVec.ofBool s.cmdReady ++ s.state.code ++ BitVec.ofBool s.dir.bit ++ BitVec.ofBool s.result.done
    ++ BitVec.ofBool s.busy ++ BitVec.ofBool s.init

/-- RESULT, host register 17 (R25): with DONE = 0 every field reads as 0. -/
def State.resultWord (s : State) : BitVec 32 :=
  if s.result.done then
    1#1 ++ 0#7 ++ s.result.rcount ++ s.result.excCode ++ s.result.rop ++ 0#1 ++ s.result.kind.code
  else 0

/-- RDATA[i] has a value (R26). -/
def State.rdataValid (s : State) (i : Nat) : Bool :=
  s.result.done && decide (s.result.kind = .success) && decide (i < s.result.rcount.toNat)

/-- The payload a Success presents: RDATA[0] to RDATA[RCOUNT - 1] (R26). -/
def State.payload (s : State) : List Word := s.rdata.toList.take s.result.rcount.toNat

/-- The failure kind of a KIND code and EXC_CODE (R25); `none` for Success. -/
def failureOf (excCode : Byte) : Kind → Option ErrorKind
  | .success => none
  | .ioError => some .ioError
  | .timeout => some .timeout
  | .crcMismatch => some .crcMismatch
  | .exceptionResponse => some (.exceptionResponse excCode)
  | .echoMismatch => some .echoMismatch

/-- The TransactionResult of the last completed command (R25, R28): none while DONE = 0, and none for INITIALIZE, which has no
`TransactionResult` (30_encoding.md R81). -/
def State.transactionResult (s : State) : Option TransactionResult :=
  if s.result.done ∧ s.result.rop ≠ 0 then
    match failureOf s.result.excCode s.result.kind with
    | none => some (.success s.payload)
    | some k => some (.failure k)
  else none

/-- The telemetry view (R27): a successful READ_MOTOR_TELEMETRY shows RDATA[0] as rpm and RDATA[1] as current. -/
def State.telemetry (s : State) : Option MotorTelemetry :=
  if s.result.done ∧ s.result.kind = .success ∧ s.result.rop = 3 ∧ s.result.rcount = 2 then
    some { rpm := s.rdata[0], current := s.rdata[1] }
  else none

end Sys2Proof.Machine
end

