-- ==== Sys2Proof/Machine/Codec.lean ====
section
/-! DEFINITION. The frame codec (spec 44_frame_codec.md): the request encoder, the expected length of a response, the
validator, and the outcome of a whole transaction as one function. -/

namespace Sys2Proof.Machine

/-- The six bytes of a request before its CRC (R165). -/
def requestBody (slave fc : Byte) (a b : Word) : List Byte := [slave, fc, hi8 a, lo8 a, hi8 b, lo8 b]

/-- `encode_request(slave, fc, a, b)` (R165). -/
def encodeRequest (slave fc : Byte) (a b : Word) : List Byte := appendCrc (requestBody slave fc a b)

/-- `expected_length(fc, b, f1)` (R180). -/
def expectedLength (fc : Byte) (b : Word) (f1 : Byte) : Nat :=
  if f1.getLsbD 7 then 5
  else if fc = Config.fcRead then 5 + 2 * b.toNat
  else 8

/-- Byte `i` of a frame. -/
def byteAt (f : List Byte) (i : Nat) : Byte := f.getD i 0

/-- Register value `i` of a function-code-3 response (R68(c), R186). -/
def responseWord (f : List Byte) (i : Nat) : Word := joinBytes (byteAt f (3 + 2 * i)) (byteAt f (4 + 2 * i))

/-- The `b` register values of a function-code-3 response (R186). -/
def responseWords (f : List Byte) (b : Word) : List Word := (List.range b.toNat).map (responseWord f)

/-- `validate(fc, a, b, f)` (R181): the checks in order, the first that fails decides. -/
def validate (fc : Byte) (a b : Word) (f : List Byte) : TransactionResult :=
  if crcOk f = false then .failure .crcMismatch
  else if byteAt f 1 = fc ||| Config.excFlag then .failure (.exceptionResponse (byteAt f 2))
  else if byteAt f 1 ≠ fc then .failure .echoMismatch
  else if fc = Config.fcWrite then
    if joinBytes (byteAt f 2) (byteAt f 3) ≠ a ∨ joinBytes (byteAt f 4) (byteAt f 5) ≠ b then .failure .echoMismatch
    else .success []
  else .success (responseWords f b)

/-- `outcome(req, txo, rx)` (R191): the result of a whole transaction from the environment's choices alone. -/
def outcome (fc : Byte) (a b : Word) (txo : WriteOutcome) (rx : List Byte) : TransactionResult :=
  match txo with
  | .fault _ => .failure .ioError
  | .ok =>
    if rx.length < 2 then .failure .timeout
    else if rx.length < expectedLength fc b (byteAt rx 1) then .failure .timeout
    else validate fc a b (rx.take (expectedLength fc b (byteAt rx 1)))

end Sys2Proof.Machine
end

