-- ==== Sys2Proof/Machine/Operands.lean ====
section
/-! DEFINITION. The operands of the request frame per command (spec 30_encoding.md R69) and the conditions on which a command
word is ill formed (R71). -/

namespace Sys2Proof.Machine

/-- The clamp of SET_MOTOR_SPEED (41_master_operations.md R106, R111(a)): the unsigned minimum. -/
def clampSpeed (value protocolMax : Word) : Word := if value.toNat ≤ protocolMax.toNat then value else protocolMax

/-- The wire value of a Boolean command (R69): bit 0 of the operand A chooses. -/
def booleanValue (a valT valF : Word) : Word := if a.getLsbD 0 then valT else valF

/-- The count range of R71(b), on the full 16-bit B (R111(c)). -/
def countLegal (count : Word) : Bool := decide (1 ≤ count.toNat) && decide (count.toNat ≤ Config.maxCount)

/-- What INITIALIZE requires besides IDLE (41_master_operations.md R102, R71(d)). -/
def State.initializable (s : State) : Bool :=
  !s.init && Config.slaveAddrLegal s.cfg.slaveAddr && s.cfg.wrPmax && s.cfg.wrTimeout

/-- R71: the command word of an instruction is ill formed in this state. Frames are no command words; for them this is
`false`. -/
def commandIllFormed (s : State) : Instr → Bool
  | .initMaster _ _ => !s.initializable
  | .readHoldingRegisters _ count => !s.init || !countLegal count
  | .writeSingleRegister _ _ => !s.init
  | .readMotorTelemetry _ _ => !s.init
  | .setMotorSpeed _ _ => !s.init
  | .setMotorEnable _ _ => !s.init || s.params.mapEnable.isNone
  | .setMotorDirection _ _ => !s.init || s.params.mapDirection.isNone
  | .setMotorBrake _ _ => !s.init || s.params.mapBrake.isNone
  | .reservedOp _ _ _ => true
  | .fc3Request _ _ _ _ => false
  | .fc6Request _ _ _ _ => false
  | .fc3Response _ _ _ _ => false
  | .fc6Response _ _ _ _ => false
  | .exceptionResponseFc3 _ _ _ => false
  | .exceptionResponseFc6 _ _ _ => false
  | .otherFunctionByte _ _ _ => false

end Sys2Proof.Machine
end

