-- ==== Sys2Proof/Machine/Ops.lean ====
section
/-! DEFINITION. The named operations over the state: wire trace and direction line (spec 40_transport_adapter.md R90),
acceptance and refusal of a command (41_master_operations.md R100, R101), the buffers, the entry actions of the sequencer's
states (42_transaction_sequencer.md R123, R127, R128), and the end of a transaction: Success (44_frame_codec.md R190), taking a
failure (60_exceptions.md R216) with the return from it (R218, R134). -/

namespace Sys2Proof.Machine

/-! ## Observations -/

/-- `emit e` (00_scope.md R8): append an event to the wire trace. -/
def State.emit (e : WireEvent) (s : State) : State := { s with trace := s.trace ++ [e] }

/-- Append events to the wire trace in order. -/
def State.emitAll (es : List WireEvent) (s : State) : State := { s with trace := s.trace ++ es }

/-- The host port answers. -/
def State.answer (r : Reply) (s : State) : State := { s with replies := s.replies ++ [r] }

/-! ## Direction line (R90) -/

/-- The level for a mode (R90): HIGH for Transmit, LOW for Receive. -/
def Mode.level : Mode → Level
  | .transmit => .high
  | .receive => .low

/-- `set_direction(mode)` (R90): drives the line and emits the event, also when the line already has the level. -/
def State.setDirection (m : Mode) (s : State) : State := { s with dir := m.level }.emit (.dir m.level)

/-! ## Buffers (R17, R18, R26) -/

/-- Store a list from index `i` on; what does not fit is dropped. -/
def storeFrom {α : Type} {n : Nat} (v : Vector α n) (i : Nat) : List α → Vector α n
  | [] => v
  | x :: xs => storeFrom (v.setIfInBounds i x) (i + 1) xs

/-- `TXBUF[0..8]` as a frame (R92: "always TXBUF[0..8]"). -/
def State.txFrame (s : State) : List Byte := s.txbuf.toList

/-- `RXBUF[0..RXEXP]` as a frame (R133). -/
def State.rxFrame (s : State) : List Byte := s.rxbuf.toList.take s.rxexp.toNat

/-! ## The outcome of a write (40_transport_adapter.md R92) -/

/-- The outcome the environment chooses for the next `write_bytes` (R92): the head of its list, or a free outcome where the
list names none, so that the call always returns (log entry 22). -/
def State.nextWrite (s : State) : WriteOutcome :=
  match s.env.writes with
  | o :: _ => o
  | [] =>
    match Config.freeFault s.freeCount with
    | none => .ok
    | some sent => .fault sent

/-- That outcome is used up. -/
def State.dropWrite (s : State) : State :=
  { s with
    env := { s.env with writes := s.env.writes.tail }
    freeCount := if s.env.writes.isEmpty then s.freeCount + 1 else s.freeCount }

/-! ## The command port (R100, R101) -/

/-- A command is refused (R101): the block is left as it is and the port shows it (log entry 5). -/
def State.refuse (s : State) : State := s.answer .refused

/-- A transaction command is accepted (R100). RESULT reads as 0 from here on (R28(a)), its fields too (log entry 7). -/
def State.accept (op : BitVec 4) (fc : Byte) (a b : Word) (s : State) : State :=
  { s with
    req := { op := op, fc := fc, a := a, b := b }
    txErr := false
    result := ResultReg.cleared
    state := .buildFrame }.answer .accepted

/-- A transaction command at the port: accepted if and only if STATE = IDLE and it is well formed (R100), of which INIT = 1
(R71(e)) is common to all and `legal` is the command's own part; otherwise refused. -/
def State.issue (legal : Bool) (op : BitVec 4) (fc : Byte) (a b : Word) (s : State) :
    Host.Outcome State Fault Refusal :=
  if s.state = .idle ∧ s.init ∧ legal then .next (s.accept op fc a b) else .next s.refuse

/-- A Boolean motor command (R107 to R109): a single-register write to the parameter `map`, refused when it is absent
(R71(c)). -/
def State.issueBoolean (op : BitVec 4) (map : Option Word) (valT valF a : Word) (s : State) :
    Host.Outcome State Fault Refusal :=
  match map with
  | some addr => s.issue true op Config.fcWrite addr (booleanValue a valT valF)
  | none => .next s.refuse

/-- INITIALIZE accepted (R102): INIT is set, the line goes to Receive, RESULT is that of OP 0. -/
def State.initialized (s : State) : State :=
  ({ s with
    init := true
    req := { s.req with op := 0 }
    result := { done := true, kind := .success, rop := 0, excCode := 0, rcount := 0 } }.setDirection .receive).answer .accepted

/-! ## Entry actions of the sequencer's states (log entry 6) -/

/-- Enter TRANSMIT (R123): the line goes to Transmit. -/
def State.enterTransmit (s : State) : State := { s with state := .transmit }.setDirection .transmit

/-- Enter RECEIVE (R127): the line goes to Receive. -/
def State.enterReceive (s : State) : State := { s with state := .receive }.setDirection .receive

/-- Enter AWAIT_RESPONSE (R128): the response window opens. DESIGN CHOICE (log entry 21): RXEXP, which "has no value yet", and
the bytes of RXBUF, none of which is valid at RXCNT = 0, keep their earlier contents in storage; no rule reads them. -/
def State.enterAwait (s : State) : State := { s with state := .awaitResponse, rxcnt := 0, window := true }

/-! ## The end of a transaction -/

/-- The KIND of a failure (60_exceptions.md R200). -/
def ErrorKind.kind : ErrorKind → Kind
  | .ioError => .ioError
  | .timeout => .timeout
  | .crcMismatch => .crcMismatch
  | .exceptionResponse _ => .exceptionResponse
  | .echoMismatch => .echoMismatch

/-- The EXC_CODE of a failure (R204, R216): the slave's code for an exception response, else 0. -/
def ErrorKind.excCode : ErrorKind → Byte
  | .ioError => 0
  | .timeout => 0
  | .crcMismatch => 0
  | .exceptionResponse code => code
  | .echoMismatch => 0

/-- TAKING AN EXCEPTION: `raise Failure(kind)` (60_exceptions.md R216). RESULT is written and STATE becomes ERROR_REPORTED;
nothing is saved and nothing else is written. -/
def State.raiseFailure (k : ErrorKind) (s : State) : State :=
  { s with
    result := { done := true, kind := k.kind, rop := s.req.op, excCode := k.excCode, rcount := 0 }
    state := .errorReported }

/-- THE RETURN from it (R218, 42_transaction_sequencer.md R134): STATE becomes IDLE; nothing is restored. -/
def State.returnToIdle (s : State) : State := { s with state := .idle }

/-- A failure as the machine shows it: taken and returned from in one step, the merge of ERROR_REPORTED with the IDLE after it
that R134 allows (log entry 15). R32(c) holds in every state only so. -/
def State.takeFailure (k : ErrorKind) (s : State) : State := (s.raiseFailure k).returnToIdle

/-- Writing a Success (44_frame_codec.md R190): all of RESULT and the payload in one step, and STATE becomes IDLE (R133). -/
def State.succeed (payload : List Word) (s : State) : State :=
  { s with
    result := { done := true, kind := .success, rop := s.req.op, excCode := 0, rcount := BitVec.ofNat 8 payload.length }
    rdata := storeFrom s.rdata 0 payload
    state := .idle }

/-- The result of a transaction is written (R133). -/
def State.conclude (r : TransactionResult) (s : State) : State :=
  match r with
  | .success payload => s.succeed payload
  | .failure k => s.takeFailure k

end Sys2Proof.Machine
end

