-- ==== Sys2Proof/Machine/Commands.lean ====
section
/-! DEFINITION. The meanings of the command words (spec 41_master_operations.md R102 to R109, 30_encoding.md R69, R71). A
command is accepted or refused in one step; the transaction it starts is the sequencer's. -/

namespace Sys2Proof.Machine

/-- INITIALIZE (R102). -/
def execInitMaster (_a _b : Word) (s : State) : Host.Outcome State Fault Refusal :=
  if s.state = .idle ∧ s.initializable then .next s.initialized else .next s.refuse

/-- READ_HOLDING_REGISTERS (R103): refused when the count is 0 or above 125 (R71(b)). -/
def execReadHoldingRegisters (start count : Word) (s : State) : Host.Outcome State Fault Refusal :=
  s.issue (countLegal count) 1 Config.fcRead start count

/-- WRITE_SINGLE_REGISTER (R104). -/
def execWriteSingleRegister (addr value : Word) (s : State) : Host.Outcome State Fault Refusal :=
  s.issue true 2 Config.fcWrite addr value

/-- READ_MOTOR_TELEMETRY (R105): a read of 2 registers at CFG_MAP_RPM. -/
def execReadMotorTelemetry (_a _b : Word) (s : State) : Host.Outcome State Fault Refusal :=
  s.issue true 3 Config.fcRead s.cfg.mapRpm 2

/-- SET_MOTOR_SPEED (R106): a write of the clamped value to CFG_MAP_SET_SPEED. -/
def execSetMotorSpeed (value _b : Word) (s : State) : Host.Outcome State Fault Refusal :=
  s.issue true 4 Config.fcWrite s.cfg.mapSetSpeed (clampSpeed value s.cfg.protocolMax)

/-- SET_MOTOR_ENABLE (R107). -/
def execSetMotorEnable (a _b : Word) (s : State) : Host.Outcome State Fault Refusal :=
  s.issueBoolean 5 s.params.mapEnable s.params.valEnableT s.params.valEnableF a

/-- SET_MOTOR_DIRECTION (R108). -/
def execSetMotorDirection (a _b : Word) (s : State) : Host.Outcome State Fault Refusal :=
  s.issueBoolean 6 s.params.mapDirection s.params.valDirectionT s.params.valDirectionF a

/-- SET_MOTOR_BRAKE (R109). -/
def execSetMotorBrake (a _b : Word) (s : State) : Host.Outcome State Fault Refusal :=
  s.issueBoolean 7 s.params.mapBrake s.params.valBrakeT s.params.valBrakeF a

/-- Opcodes 8 to 15 (R71(a), R101): always refused. -/
def execReservedOp (_low : BitVec 3) (_a _b : Word) (s : State) : Host.Outcome State Fault Refusal :=
  .next s.refuse

end Sys2Proof.Machine
end

