-- ==== Sys2Proof/Machine/HostPort.lean ====
section
/-! DEFINITION. The host's register port (spec 10_state.md R11, R12, R22 to R26) and the reset input
(70_reset_and_hazards.md R240, R241). -/

namespace Sys2Proof.Machine

/-- A host write to a configuration register that takes effect (R12, R24): the low bits of the register's width are kept, and
writing CFG_PROTOCOL_MAX or CFG_TIMEOUT sets its written flag. Other numbers are read-only or do not exist (R23). -/
def Cfg.write (timeoutWidth number value : Nat) (c : Cfg) : Cfg :=
  match number with
  | 0 => { c with slaveAddr := BitVec.ofNat 8 value }
  | 1 => { c with mapRpm := BitVec.ofNat 16 value }
  | 2 => { c with mapCurrent := BitVec.ofNat 16 value }
  | 3 => { c with mapSetSpeed := BitVec.ofNat 16 value }
  | 4 => { c with protocolMax := BitVec.ofNat 16 value, wrPmax := true }
  | 5 => { c with timeout := value % 2 ^ timeoutWidth, wrTimeout := true }
  | _ => c

/-- A host write (R12): effective if and only if INIT = 0; otherwise nothing changes. -/
def State.writeReg (number value : Nat) (s : State) : State :=
  if s.init then s else { s with cfg := s.cfg.write s.params.timeoutWidth number value }

/-- What a host read of RDATA[i] returns (R26): a free value outside the validity (log entry 4). -/
def State.rdataRead (i : Nat) (s : State) : Nat :=
  if s.rdataValid i then (s.rdata.toList.getD i 0).toNat else (Config.freeWord s.freeCount).toNat

/-- What a host read returns (R23): the registers of the map, and 0 for a number that does not exist. CFG_PROTOCOL_MAX and
CFG_TIMEOUT give a free value before they are written (93_implementation_defined.md U3, U4; log entry 4). -/
def State.regValue (number : Nat) (s : State) : Nat :=
  match number with
  | 0 => s.cfg.slaveAddr.toNat
  | 1 => s.cfg.mapRpm.toNat
  | 2 => s.cfg.mapCurrent.toNat
  | 3 => s.cfg.mapSetSpeed.toNat
  | 4 => if s.cfg.wrPmax then s.cfg.protocolMax.toNat else (Config.freeWord s.freeCount).toNat
  | 5 => if s.cfg.wrTimeout then s.cfg.timeout else Config.freeDuration s.freeCount % 2 ^ s.params.timeoutWidth
  | 16 => s.statusWord.toNat
  | 17 => s.resultWord.toNat
  | n => if 32 ≤ n ∧ n ≤ 156 then s.rdataRead (n - 32) else 0

/-- A host read (R23): the port answers with the value; the block is left as it is. -/
def State.readReg (number : Nat) (s : State) : State :=
  { s.answer (.data number (s.regValue number)) with freeCount := s.freeCount + 1 }

/-- The bytes of a frame as TX events (40_transport_adapter.md R92). -/
def txEvents (f : List Byte) : List WireEvent := f.map .tx

/-- Reset (R240, R241): every piece of the block's state takes its reset value, in any state. Reset emits no event; if it
cuts off a `write_bytes`, the `sent` bytes that had left are in the trace (log entry 12). -/
def State.assertReset (sent : Fin 9) (s : State) : State :=
  { State.reset with
    params := s.params
    host := s.host
    env := s.env
    trace := s.trace ++ (if s.state = .transmit then txEvents (s.txFrame.take sent.val) else [])
    replies := s.replies
    freeCount := s.freeCount }

end Sys2Proof.Machine
end

