-- ==== Sys2Proof/Machine/Requests.lean ====
section
/-! DEFINITION. The meanings of the request frames (spec 30_encoding.md R62, R63): the body of TRANSMIT
(42_transaction_sequencer.md R124, R125) over `write_bytes` (40_transport_adapter.md R92). A request frame is run in TRANSMIT
only; in another state the block transmits nothing (R120: no other transition exists; log entry 9). -/

namespace Sys2Proof.Machine

/-- `write_bytes(f)` in TRANSMIT (R92): ok emits every byte and leads to FLUSH_TRANSMIT (R124); a fault after `sent` bytes
emits those and TXFAULT, sets TXERR and leads to RECEIVE (R125). -/
def State.writeBytes (f : List Byte) (s : State) : State :=
  match s.nextWrite with
  | .ok => { s.dropWrite with state := .flushTransmit }.emitAll (txEvents f)
  | .fault sent =>
    ({ s.dropWrite with txErr := true }.emitAll (txEvents (f.take sent.val) ++ [WireEvent.txFault])).enterReceive

/-- A request frame at the transmitter. -/
def State.transmitFrame (f : List Byte) (s : State) : Host.Outcome State Fault Refusal :=
  if s.state = .transmit then .next (s.writeBytes f) else .next s

/-- FC3_REQUEST (R62). -/
def execFc3Request (slave : Byte) (start count crc : Word) (s : State) : Host.Outcome State Fault Refusal :=
  s.transmitFrame (frame8 slave Config.fcRead start count crc)

/-- FC6_REQUEST (R63). -/
def execFc6Request (slave : Byte) (addr value crc : Word) (s : State) : Host.Outcome State Fault Refusal :=
  s.transmitFrame (frame8 slave Config.fcWrite addr value crc)

end Sys2Proof.Machine
end

