-- ==== Sys2Proof/Machine/Responses.lean ====
section
/-! DEFINITION. The meanings of the received frames (spec 30_encoding.md R64 to R67): the step of VALIDATE
(42_transaction_sequencer.md R133). The CRC unit runs over the frame (43_crc16.md R156), `validate` decides
(44_frame_codec.md R181) and the result is written (R190, 60_exceptions.md R216). A received frame is judged in VALIDATE only;
in another state nothing happens (R120; log entry 9). -/

namespace Sys2Proof.Machine

/-- A received frame at the validator (R133). -/
def State.judgeFrame (f : List Byte) (s : State) : Host.Outcome State Fault Refusal :=
  if s.state = .validate then
    .next ((s.crcFeed (crcBody f)).conclude (validate s.req.fc s.req.a s.req.b f))
  else .next s

/-- FC3_RESPONSE (R64, 44_frame_codec.md R186). -/
def execFc3Response (slave byteCount : Byte) (values : List Word) (crc : Word) (s : State) :
    Host.Outcome State Fault Refusal :=
  s.judgeFrame (readFrame slave byteCount values crc)

/-- FC6_RESPONSE (R65, 44_frame_codec.md R185). -/
def execFc6Response (slave : Byte) (addr value crc : Word) (s : State) : Host.Outcome State Fault Refusal :=
  s.judgeFrame (frame8 slave Config.fcWrite addr value crc)

/-- EXCEPTION_RESPONSE_FC3 (R66, 44_frame_codec.md R183). -/
def execExceptionResponseFc3 (slave code : Byte) (crc : Word) (s : State) : Host.Outcome State Fault Refusal :=
  s.judgeFrame (frame5 slave (Config.fcRead ||| Config.excFlag) code crc)

/-- EXCEPTION_RESPONSE_FC6 (R66, 44_frame_codec.md R183). -/
def execExceptionResponseFc6 (slave code : Byte) (crc : Word) (s : State) : Host.Outcome State Fault Refusal :=
  s.judgeFrame (frame5 slave (Config.fcWrite ||| Config.excFlag) code crc)

/-- OTHER_FUNCTION_BYTE (R67, 44_frame_codec.md R184). -/
def execOtherFunctionByte (slave function : Byte) (rest : List Byte) (s : State) : Host.Outcome State Fault Refusal :=
  s.judgeFrame (slave :: function :: rest)

end Sys2Proof.Machine
end

