-- ==== Sys2Proof/Machine/Dispatch.lean ====
section
/-! DEFINITION. One arm per instruction, each one call of its meaning. -/

namespace Sys2Proof.Machine

def exec (i : Instr) (s : State) : Host.Outcome State Fault Refusal :=
  match i with
  -- command words (Machine/Commands.lean)
  | .initMaster a b => Sys2Proof.Machine.execInitMaster a b s
  | .readHoldingRegisters start count => Sys2Proof.Machine.execReadHoldingRegisters start count s
  | .writeSingleRegister addr value => Sys2Proof.Machine.execWriteSingleRegister addr value s
  | .readMotorTelemetry a b => Sys2Proof.Machine.execReadMotorTelemetry a b s
  | .setMotorSpeed value b => Sys2Proof.Machine.execSetMotorSpeed value b s
  | .setMotorEnable a b => Sys2Proof.Machine.execSetMotorEnable a b s
  | .setMotorDirection a b => Sys2Proof.Machine.execSetMotorDirection a b s
  | .setMotorBrake a b => Sys2Proof.Machine.execSetMotorBrake a b s
  | .reservedOp low a b => Sys2Proof.Machine.execReservedOp low a b s
  -- request frames (Machine/Requests.lean)
  | .fc3Request slave start count crc => Sys2Proof.Machine.execFc3Request slave start count crc s
  | .fc6Request slave addr value crc => Sys2Proof.Machine.execFc6Request slave addr value crc s
  -- received frames (Machine/Responses.lean)
  | .fc3Response slave byteCount values crc => Sys2Proof.Machine.execFc3Response slave byteCount values crc s
  | .fc6Response slave addr value crc => Sys2Proof.Machine.execFc6Response slave addr value crc s
  | .exceptionResponseFc3 slave code crc => Sys2Proof.Machine.execExceptionResponseFc3 slave code crc s
  | .exceptionResponseFc6 slave code crc => Sys2Proof.Machine.execExceptionResponseFc6 slave code crc s
  | .otherFunctionByte slave function rest => Sys2Proof.Machine.execOtherFunctionByte slave function rest s

end Sys2Proof.Machine
end

