-- ==== Sys2Proof/Machine/Sequencer.lean ====
section
/-! DEFINITION. The steps of the sequencer that run no frame (spec 42_transaction_sequencer.md R121, R122, R126 to R131, R134).
TRANSMIT and VALIDATE run the frame in TXBUF and RXBUF and are in Machine/Requests.lean and Machine/Responses.lean. -/

namespace Sys2Proof.Machine

/-- BUILD_FRAME (R122): the frame goes to TXBUF, through the CRC unit (43_crc16.md R155); then TRANSMIT is entered (R123; log
entry 6). -/
def State.buildFrame (s : State) : State :=
  let body := requestBody s.cfg.slaveAddr s.req.fc s.req.a s.req.b
  { s.crcFeed body with
    txbuf := storeFrom s.txbuf 0 (encodeRequest s.cfg.slaveAddr s.req.fc s.req.a s.req.b) }.enterTransmit

/-- FLUSH_TRANSMIT (R126): on FLUSHED, RECEIVE is entered (R127). Without it the block waits, with DIR = HIGH
(70_reset_and_hazards.md R262). -/
def State.flushWait (s : State) : State :=
  match s.env.flushes with
  | 0 => s
  | n + 1 => ({ s with env := { s.env with flushes := n } }.emit .flushed).enterReceive

/-- RECEIVE (R127), after the line went LOW on entry: a transmit fault is reported as IoError, else AWAIT_RESPONSE is
entered (R128). -/
def State.receiveTurn (s : State) : State :=
  if s.txErr then s.takeFailure .ioError else s.enterAwait

/-- The response is incomplete (R129): `RXCNT < 2`, or `RXCNT < RXEXP`. -/
def State.incomplete (s : State) : Bool :=
  decide (s.rxcnt.toNat < 2) || decide (s.rxcnt.toNat < s.rxexp.toNat)

/-- The response is complete (R130): `RXCNT >= 2` and `RXCNT = RXEXP`. -/
def State.complete (s : State) : Bool := decide (2 ≤ s.rxcnt.toNat) && decide (s.rxcnt = s.rxexp)

/-- R130: as soon as the response is complete the window closes and VALIDATE is entered (log entry 16). -/
def State.closeIfComplete (s : State) : State :=
  if s.complete then { s with window := false, state := .validate } else s

/-- R129: one byte is consumed; RXEXP is set when the second byte has been stored. Before that RXEXP, and after it the bytes
of RXBUF from the new RXCNT on, keep their earlier contents: DESIGN CHOICE (log entry 21), the spec gives them no value. -/
def State.storeByte (b : Byte) (s : State) : State :=
  let buf := s.rxbuf.setIfInBounds s.rxcnt.toNat b
  let cnt := s.rxcnt + 1
  { s with
    rxbuf := buf
    rxcnt := cnt
    rxexp := if cnt = 2 then BitVec.ofNat 8 (expectedLength s.req.fc s.req.b (byteAt buf.toList 1)) else s.rxexp }.emit (.rx b)

/-- R131: the window closes on an incomplete response. -/
def State.windowTimeout (s : State) : State :=
  ({ s with window := false }.emit .timeout).takeFailure .timeout

/-- AWAIT_RESPONSE (R129 to R131): completion has priority (R130); else the next thing the receive path shows is consumed.
Where no byte comes that the block asks for, TIMEOUT occurs (40_transport_adapter.md R94, R97(b)), so that the state always
ends (R132; log entry 8). -/
def State.awaitTurn (s : State) : State :=
  if s.complete then s.closeIfComplete
  else
    match s.env.receive with
    | [] => s.windowTimeout
    | .timeout :: later => { s with env := { s.env with receive := later } }.windowTimeout
    | .byte b :: later =>
      if s.incomplete then ({ s with env := { s.env with receive := later } }.storeByte b).closeIfComplete
      else s.windowTimeout

/-- One step of the sequencer in a state that runs no frame. IDLE waits (R121). TRANSMIT and VALIDATE are not run here.
ERROR_REPORTED goes to IDLE (R134); no step stops there (log entry 15). -/
def State.advance (s : State) : State :=
  match s.state with
  | .idle => s
  | .buildFrame => s.buildFrame
  | .transmit => s
  | .flushTransmit => s.flushWait
  | .receive => s.receiveTurn
  | .awaitResponse => s.awaitTurn
  | .validate => s
  | .errorReported => s.returnToIdle

end Sys2Proof.Machine
end

