-- ==== Sys2Proof/Machine/Fetch.lean ====
section
/-! DEFINITION. What one step does before an instruction runs: who moves (log entry 1), where the instruction is fetched from
(the command port, TXBUF, RXBUF), and how an instruction's words are placed there. -/

namespace Sys2Proof.Machine

/-- What a step has come to. -/
inductive Fetched where
  /-- An instruction runs in the state given. -/
  | run (i : Instr) (s : State)
  /-- The step is complete without an instruction. -/
  | done (s : State)
  | fault (r : Fault)
  | refused (r : Refusal)
  deriving DecidableEq, Repr

/-- An instruction runs if the bytes decode. -/
def Fetched.ofDecoded (s : State) : Except DecodeError Instr → Fetched
  | .ok i => .run i s
  | .error _ => .refused .noFrame

/-- The block moves (42_transaction_sequencer.md R120): TRANSMIT runs the frame in TXBUF, VALIDATE the frame in
RXBUF[0..RXEXP], every other state takes its own step. -/
def State.fetchBlock (s : State) : Fetched :=
  match s.state with
  | .idle => .done s.advance
  | .buildFrame => .done s.advance
  | .transmit => .ofDecoded s (decodeRequest s.txFrame)
  | .flushTransmit => .done s.advance
  | .receive => .done s.advance
  | .awaitResponse => .done s.advance
  | .validate => .ofDecoded s (decodeResponse s.req.fc s.rxFrame)
  | .errorReported => .done s.advance

/-- The head of `host` says who moves; without one the block does (log entry 1). -/
def State.fetch (s : State) : Fetched :=
  match s.host with
  | [] => s.fetchBlock
  | .command w :: later => .run (decodeCommand w) { s with host := later }
  | .writeReg n v :: later => .done (State.writeReg n v { s with host := later })
  | .readReg n :: later => .done (State.readReg n { s with host := later })
  | .reset sent :: later => .done (State.assertReset sent { s with host := later })
  | .letRun :: later => State.fetchBlock { s with host := later }
  | .awaitReady :: later => if s.cmdReady then .done { s with host := later } else s.fetchBlock
  | .violation v :: _ => .fault (.preconditionBroken v)

/-! ## Placing an instruction where the next step fetches it -/

/-- REQ_FC and REQ_B of the request a received frame answers, where the frame itself shows them. -/
def State.expectFrame (i : Instr) (s : State) : State :=
  match i with
  | .fc3Response _ _ values _ =>
    { s with req := { s.req with fc := Config.fcRead, b := BitVec.ofNat 16 values.length } }
  | .fc6Response _ _ _ _ => { s with req := { s.req with fc := Config.fcWrite } }
  | .exceptionResponseFc3 _ _ _ => { s with req := { s.req with fc := Config.fcRead } }
  | .exceptionResponseFc6 _ _ _ => { s with req := { s.req with fc := Config.fcWrite } }
  | .otherFunctionByte _ function _ => { s with req := { s.req with fc := impliedFc function } }
  | .initMaster _ _ => s
  | .readHoldingRegisters _ _ => s
  | .writeSingleRegister _ _ => s
  | .readMotorTelemetry _ _ => s
  | .setMotorSpeed _ _ => s
  | .setMotorEnable _ _ => s
  | .setMotorDirection _ _ => s
  | .setMotorBrake _ _ => s
  | .reservedOp _ _ _ => s
  | .fc3Request _ _ _ _ => s
  | .fc6Request _ _ _ _ => s

/-- Place an instruction so that the next step runs it (log entry 10): a command at the head of the host's actions; a request
frame in TXBUF with the sequencer in TRANSMIT, the line HIGH and, where the environment has none, an ok outcome of the write;
a received frame in RXBUF with the sequencer in VALIDATE. For a frame the host lets the block run. -/
def State.place (i : Instr) (s : State) : State :=
  match encode i with
  | .command w => { s with host := .command w :: s.host }
  | .request f =>
    { s with
      host := .letRun :: s.host
      state := .transmit
      dir := .high
      txbuf := storeFrom s.txbuf 0 f
      env := { s.env with writes := if s.env.writes = [] then [.ok] else s.env.writes } }
  | .response f =>
    { s.expectFrame i with
      host := .letRun :: s.host
      state := .validate
      rxbuf := storeFrom s.rxbuf 0 f
      rxcnt := BitVec.ofNat 8 f.length
      rxexp := BitVec.ofNat 8 f.length }

end Sys2Proof.Machine
end

