-- ==== Sys2Proof/Machine/Step.lean ====
section
/-! DEFINITION. One step of the machine (spec 00_scope.md R9, 42_transaction_sequencer.md R120), and where an instruction is
placed for the next step. -/

namespace Sys2Proof.Machine

/-- One step: what `fetch` finds is run. -/
def step (s : State) : Host.Outcome State Fault Refusal :=
  match s.fetch with
  | .run i t => exec i t
  | .done t => .next t
  | .fault r => .fault r
  | .refused r => .refused r

/-- The state with the instruction of `w` (in the numbering of spec/opcode_table.json) placed where the next step fetches it
(log entry 10). -/
def State.withFetchWord (s : State) (nbits w : Nat) : State :=
  match decodeTableWord nbits w with
  | some i => s.place i
  | none => s

end Sys2Proof.Machine
end

