-- ==== Sys2Proof/Machine/Slave.lean ====
section
/-! DEFINITION. A simulated slave that echoes state (spec 20_memory.md R48, R42; 00_scope.md R8 MemRead and MemWrite). It is no
part of the machine: the spec treats the slave as an oracle (20_memory.md R41). It says what R48 assumes of the bytes that come
back, and statements about R48 use it (log entry 17). -/

namespace Sys2Proof.Machine

/-- Holding registers by address, in one canonical form: addresses strictly rising, no entry 0 (what an unlisted cell of the
simulated slave holds). -/
abbrev Cells := List (Nat × Word)

/-- The canonical form. -/
def Cells.wf : Cells → Bool
  | [] => true
  | [(_, w)] => w != 0
  | (a, w) :: (b, v) :: rest => w != 0 && decide (a < b) && Cells.wf ((b, v) :: rest)

/-- The cell at an address (R8 MemRead, one cell). -/
def Cells.read (a : Nat) : Cells → Word
  | [] => 0
  | (b, w) :: rest => if a = b then w else Cells.read a rest

/-- Put an entry in front unless it is 0. -/
def Cells.cons (a : Nat) (w : Word) (rest : Cells) : Cells := if w = 0 then rest else (a, w) :: rest

/-- Cell `a` takes the value `w` (R8 MemWrite). -/
def Cells.write (a : Nat) (w : Word) : Cells → Cells
  | [] => Cells.cons a w []
  | (b, v) :: rest =>
    if a < b then Cells.cons a w ((b, v) :: rest)
    else if a = b then Cells.cons a w rest
    else (b, v) :: Cells.write a w rest

/-- The `n` consecutive cells at `a` (R8, R42); addresses are 16 bits wide. -/
def Cells.readMany (a n : Nat) (c : Cells) : List Word :=
  (List.range n).map fun i => c.read ((a + i) % 65536)

/-- A simulated slave: its address on the bus and its holding registers. -/
structure Slave where
  addr : Byte
  cells : Cells
  deriving DecidableEq, Repr

/-- A function-code-3 response with its CRC (30_encoding.md R64). -/
def readAnswer (slave : Byte) (values : List Word) : List Byte :=
  appendCrc (slave :: Config.fcRead :: BitVec.ofNat 8 (2 * values.length) :: wordBytes values)

/-- What the simulated slave does with a frame on the bus: a CRC-correct request to its address is carried out and answered
(R42, R48; the echo of 30_encoding.md R65 is the request itself); anything else is left unanswered. -/
def Slave.respond (sl : Slave) (frame : List Byte) : Slave × List Byte :=
  match decodeRequest frame with
  | .ok (.fc3Request slave start count _) =>
    if slave = sl.addr ∧ crcOk frame then (sl, readAnswer slave (sl.cells.readMany start.toNat count.toNat)) else (sl, [])
  | .ok (.fc6Request slave addr value _) =>
    if slave = sl.addr ∧ crcOk frame then ({ sl with cells := sl.cells.write addr.toNat value }, frame) else (sl, [])
  | _ => (sl, [])

end Sys2Proof.Machine
end

