-- ==== Sys2Proof/Safety.lean ====
section
/-! DEFINITION. What a safe run is, in the terms the statements use: the invariant of the state (spec 10_state.md R32), the order
of the wire events (42_transaction_sequencer.md R136), the transition relation of the sequencer (R120), and what a whole
transaction leaves behind (R136, 44_frame_codec.md R191). -/

namespace Sys2Proof.Machine

/-- The invariants of R32, with what they need to be kept by a step. -/
structure State.Inv (s : State) : Prop where
  /-- R14's column "DIR in this state", R32(a), R32(b) -/
  dirHigh : s.dir = .high ↔ s.state = .transmit ∨ s.state = .flushTransmit
  /-- R32(c) -/
  busyInit : s.state ≠ .idle → s.init = true
  /-- R32(c), R28(a) -/
  busyCleared : s.state ≠ .idle → s.result = ResultReg.cleared
  /-- R134: ERROR_REPORTED is merged with the IDLE after it, so no step stops there (log entry 15) -/
  notReported : s.state ≠ .errorReported
  /-- R25: with DONE = 0 the fields of RESULT read as 0 -/
  notDone : s.result.done = false → s.result = ResultReg.cleared
  /-- R32(d) -/
  windowOpen : s.window = true ↔ s.state = .awaitResponse
  /-- R32(e) -/
  rcountValid : s.result.rcount ≠ 0 → s.result.kind = .success ∧ s.result.done = true
  /-- R32(f) -/
  booted : s.init = true → Config.slaveAddrLegal s.cfg.slaveAddr = true ∧ s.cfg.wrPmax = true ∧ s.cfg.wrTimeout = true
  /-- R32(g) -/
  function : s.state ≠ .idle → s.req.fc = Config.fcRead ∨ s.req.fc = Config.fcWrite
  /-- R111(b): a read in flight asks for 1 to 125 registers -/
  count : s.state ≠ .idle → s.req.fc = Config.fcRead → countLegal s.req.b = true
  /-- R17, R122: while it is on its way, TXBUF holds the request frame -/
  frame : s.state = .transmit ∨ s.state = .flushTransmit →
    s.txFrame = encodeRequest s.cfg.slaveAddr s.req.fc s.req.a s.req.b
  /-- R21, R125: TXERR leads from TRANSMIT to RECEIVE -/
  noTxErr : s.state ≠ .idle → s.state ≠ .receive → s.txErr = false
  /-- R129: in AWAIT_RESPONSE the response is incomplete, and RXEXP is the length of R180 once two bytes are stored -/
  awaiting : s.state = .awaitResponse → 2 ≤ s.rxcnt.toNat →
    s.rxcnt.toNat < s.rxexp.toNat ∧ s.rxexp.toNat = expectedLength s.req.fc s.req.b (byteAt s.rxbuf.toList 1)
  /-- R130, R180: in VALIDATE the response has its expected length -/
  received : s.state = .validate →
    s.rxcnt = s.rxexp ∧ s.rxexp.toNat = expectedLength s.req.fc s.req.b (byteAt s.rxbuf.toList 1)

/-- The level of the last DIR event of a trace, starting from `l`. -/
def lineAfter (l : Option Level) : List WireEvent → Option Level
  | [] => l
  | .dir m :: es => lineAfter (some m) es
  | .tx _ :: es => lineAfter l es
  | .flushed :: es => lineAfter l es
  | .rx _ :: es => lineAfter l es
  | .timeout :: es => lineAfter l es
  | .txFault :: es => lineAfter l es

/-- The half-duplex order (R136, 95_test_vectors.md E4): transmit events stand after a DIR(HIGH) and before the next DIR(LOW),
receive events after a DIR(LOW) and before the next DIR(HIGH). -/
def busOrdered (l : Option Level) : List WireEvent → Bool
  | [] => true
  | .dir m :: es => busOrdered (some m) es
  | .tx _ :: es => l == some .high && busOrdered l es
  | .flushed :: es => l == some .high && busOrdered l es
  | .txFault :: es => l == some .high && busOrdered l es
  | .rx _ :: es => l == some .low && busOrdered l es
  | .timeout :: es => l == some .low && busOrdered l es

/-- The trace so far is half-duplex, and the line stands as the sequencer's state needs it. -/
structure State.HalfDuplex (s : State) : Prop where
  ordered : busOrdered none s.trace = true
  transmitting : s.state = .transmit ∨ s.state = .flushTransmit → lineAfter none s.trace = some .high
  receiving : s.state = .receive ∨ s.state = .awaitResponse → lineAfter none s.trace = some .low

/-- The edges of the transition table of R120 between different states ("no other transition exists"). -/
def transitionAllowed : SeqState → SeqState → Bool
  | .idle, .buildFrame => true
  | .buildFrame, .transmit => true
  | .transmit, .flushTransmit => true
  | .transmit, .receive => true
  | .flushTransmit, .receive => true
  | .receive, .awaitResponse => true
  | .receive, .errorReported => true
  | .awaitResponse, .validate => true
  | .awaitResponse, .errorReported => true
  | .validate, .idle => true
  | .validate, .errorReported => true
  | .errorReported, .idle => true
  | _, _ => false

/-- What one step of the machine can do to STATE: an edge of that table, or two edges through ERROR_REPORTED, which R134 lets
a model merge with the IDLE after it (log entry 15). -/
def transitionTaken (a b : SeqState) : Bool :=
  transitionAllowed a b || (transitionAllowed a .errorReported && transitionAllowed .errorReported b)

/-- The states in which a step can leave STATE as it is: IDLE without a command (R121), FLUSH_TRANSMIT without FLUSHED (R126),
and AWAIT_RESPONSE at a byte that does not complete the response (R129). -/
def mayKeepState : SeqState → Bool
  | .idle => true
  | .buildFrame => false
  | .transmit => false
  | .flushTransmit => true
  | .receive => false
  | .awaitResponse => true
  | .validate => false
  | .errorReported => false

/-- The fields of RESULT a transaction result is presented in (10_state.md R25, 44_frame_codec.md R190, 60_exceptions.md R216). -/
def resultRegOf (op : BitVec 4) : TransactionResult → ResultReg
  | .success payload =>
    { done := true, kind := .success, rop := op, excCode := 0, rcount := BitVec.ofNat 8 payload.length }
  | .failure k => { done := true, kind := k.kind, rop := op, excCode := k.excCode, rcount := 0 }

/-- The bytes `rx` complete the response of a request (R191): two of them and then as many as R180 says. -/
def responseComplete (fc : Byte) (b : Word) (rx : List Byte) : Bool :=
  decide (2 ≤ rx.length) && decide (expectedLength fc b (byteAt rx 1) ≤ rx.length)

/-- The part of the wire trace after the transmit phase (R136): the response's bytes, or all that came and TIMEOUT. -/
def receiveTrace (fc : Byte) (b : Word) (rx : List Byte) : List WireEvent :=
  if responseComplete fc b rx then (rx.take (expectedLength fc b (byteAt rx 1))).map .rx
  else rx.map .rx ++ [.timeout]

/-- The wire trace of one transaction (R136). -/
def transactionTrace (frame : List Byte) (fc : Byte) (b : Word) (txo : WriteOutcome) (rx : List Byte) : List WireEvent :=
  match txo with
  | .fault sent => .dir .high :: (txEvents (frame.take sent.val) ++ [.txFault, .dir .low])
  | .ok => .dir .high :: (txEvents frame ++ [.flushed, .dir .low] ++ receiveTrace fc b rx)

/-- What the receive path shows in one transaction (40_transport_adapter.md R96(3)): the bytes `rx` and, where they do not
complete the response, TIMEOUT after them. -/
def receiveScript (fc : Byte) (b : Word) (rx : List Byte) : List ReceiveEvent :=
  rx.map .byte ++ (if responseComplete fc b rx then [] else [.timeout])

/-- What of that script is not consumed: the bytes after the expected length (R130, 10_state.md R29(a)). -/
def receiveLeft (fc : Byte) (b : Word) (rx : List Byte) : List ReceiveEvent :=
  if responseComplete fc b rx then (rx.drop (expectedLength fc b (byteAt rx 1))).map .byte else []

/-- The host leaves the block to itself: it has nothing to do, or waits for CMD_READY (70_reset_and_hazards.md R263). -/
def State.hostWaits (s : State) : Prop := s.host = [] ∨ ∃ later, s.host = .awaitReady :: later

end Sys2Proof.Machine
end

