-- ==== Sys2Proof/Certificates/Slice0/Obligations.lean ====
section
/-! DEFINITION. The statements about the machine, for the provers. Each docstring names the rule of the spec it formalises; where
a statement holds a choice of the model it names the log entry. -/

open Sys2Proof Sys2Proof.Machine

/-! ## The CRC unit (43_crc16.md) -/

/-- R154: the bit-serial form computes the same function as `crc_update`. -/
def Obligations.CrcSerialFormAgrees : Prop :=
  ∀ (c : Word) (b : Byte), crcUpdateSerial c b = crcUpdate c b

/-- R160: the printed table is `crc_update(0, i)`, and the table form computes the same function. -/
def Obligations.CrcTableFormAgrees : Prop :=
  (∀ i, i < 256 → crcTable.getD i 0 = crcUpdate 0x0000 (BitVec.ofNat 8 i)) ∧
  (∀ (c : Word) (b : Byte),
    crcUpdate c b = (c >>> 8) ^^^ crcTable.getD ((c ^^^ b.zeroExtend 16).toNat % 256) 0) ∧
  crcTable.getD 1 0 = 0xC0C1 ∧ crcTable.getD 255 0 = 0x4040 ∧ crcTable.getD 128 0 = 0xA001

/-- R157: a frame with its CRC appended has residue 0, and the validator is the test of the residue. -/
def Obligations.CrcResidueIsZero : Prop :=
  (∀ body : List Byte, crc16 (appendCrc body) = 0x0000) ∧
  (∀ f : List Byte, 2 ≤ f.length → (crcOk f = true ↔ crc16 f = 0x0000))

/-- R158(b): for sequences of one length the CRC is affine over XOR. -/
def Obligations.CrcIsAffine : Prop :=
  ∀ f g : List Byte, f.length = g.length →
    crc16 (List.zipWith (· ^^^ ·) f g) = crc16 f ^^^ crc16 g ^^^ crc16 (List.replicate f.length 0x00)

/-- R158(c), R182: a frame of the same length that differs from a CRC-correct frame in exactly one bit is never decoded: the
validator says CrcMismatch, for every request. (A flip of bit 7 of byte 1 on the wire also changes how many bytes the block
waits for, R158(d) and R258; this statement is about the validator.) -/
def Obligations.SingleBitErrorIsCrcMismatch : Prop :=
  ∀ (fc : Byte) (a b : Word) (f : List Byte) (i k : Nat), 5 ≤ f.length → crcOk f = true → i < f.length → k < 8 →
    validate fc a b (f.set i (f.getD i 0 ^^^ BitVec.twoPow 8 k)) = .failure .crcMismatch

/-! ## Encodings (30_encoding.md) -/

/-- R62, R63: every request frame is the eight bytes of the tables, fields high byte first, the CRC of the first six low byte
first. -/
def Obligations.RequestFrameLayout : Prop :=
  ∀ (slave fc : Byte) (a b : Word),
    ∃ ah al bh bl cl ch : Byte,
      encodeRequest slave fc a b = [slave, fc, ah, al, bh, bl, cl, ch] ∧
      a.toNat = ah.toNat * 256 + al.toNat ∧
      b.toNat = bh.toNat * 256 + bl.toNat ∧
      (crc16 [slave, fc, ah, al, bh, bl]).toNat = ch.toNat * 256 + cl.toNat

/-- R60 to R67: decoding the words of a well-formed instruction gives the instruction back, with every operand at every value
the encoding admits, and a command word is the encoding of what it decodes to. A received frame is decoded under the REQ_FC its
class belongs to. -/
def Obligations.DecodeEncodeAgree : Prop :=
  (∀ (i : Instr) (fc : Byte), i.wellFormed = true → i.receivedUnder fc = true → decode fc (encode i) = .ok i) ∧
  (∀ w : BitVec 36, encode (decodeCommand w) = .command w)

/-- Words written out from R60, R62 to R67: one of every group decodes to the instruction it stands for. -/
def Obligations.SpecWordsDecode : Prop :=
  decodeCommand 0x0_0000_0000 = .initMaster 0 0 ∧
  decodeCommand 0x1_0015_0002 = .readHoldingRegisters 0x0015 2 ∧
  decodeCommand 0x4_1388_0000 = .setMotorSpeed 5000 0 ∧
  decodeCommand 0xF_FFFF_FFFF = .reservedOp 7 0xFFFF 0xFFFF ∧
  decodeRequest [0x64, 0x03, 0x00, 0x15, 0x00, 0x02, 0xDC, 0x3A] = .ok (.fc3Request 0x64 0x0015 2 0x3ADC) ∧
  decodeRequest [0x64, 0x06, 0x00, 0x01, 0x0B, 0xB8, 0xD6, 0xBD] = .ok (.fc6Request 0x64 0x0001 3000 0xBDD6) ∧
  decodeResponse 3 [0x64, 0x03, 0x04, 0x04, 0xB0, 0x03, 0x52, 0x4E, 0xEF] =
    .ok (.fc3Response 0x64 4 [1200, 850] 0xEF4E) ∧
  decodeResponse 6 [0x64, 0x06, 0x00, 0x01, 0x0B, 0xB8, 0xD6, 0xBD] = .ok (.fc6Response 0x64 0x0001 3000 0xBDD6) ∧
  decodeResponse 3 [0x64, 0x83, 0x02, 0xD0, 0xEE] = .ok (.exceptionResponseFc3 0x64 2 0xEED0) ∧
  decodeResponse 6 [0x64, 0x83, 0x02, 0xD0, 0xEE] = .ok (.otherFunctionByte 0x64 0x83 [0x02, 0xD0, 0xEE])

/-! ## Commands (41_master_operations.md) -/

/-- R102: INITIALIZE is accepted if and only if STATE = IDLE, INIT = 0, the slave address is legal and both required registers
are written; then INIT is set, the line goes to Receive with its event, and RESULT is that of OP 0. Otherwise nothing changes.
The answers at the port (`replies`) are the model's observation of acceptance and refusal (log entries 5, 19). -/
def Obligations.InitializeAcceptedOrRefused : Prop :=
  ∀ (a b : Word) (s : State),
    (s.state = .idle → s.init = false → 1 ≤ s.cfg.slaveAddr.toNat → s.cfg.slaveAddr.toNat ≤ 247 →
      s.cfg.wrPmax = true → s.cfg.wrTimeout = true →
      exec (.initMaster a b) s = .next { s with
        init := true
        dir := .low
        req := { s.req with op := 0 }
        result := { done := true, kind := .success, rop := 0, excCode := 0, rcount := 0 }
        trace := s.trace ++ [.dir .low]
        replies := s.replies ++ [.accepted] }) ∧
    (s.state ≠ .idle ∨ s.init = true ∨ s.cfg.slaveAddr.toNat = 0 ∨ 248 ≤ s.cfg.slaveAddr.toNat ∨
      s.cfg.wrPmax = false ∨ s.cfg.wrTimeout = false →
      exec (.initMaster a b) s = .next { s with replies := s.replies ++ [.refused] })

/-- R69, R100, R103: READ_HOLDING_REGISTERS accepted. Everything the acceptance does not write is unchanged. -/
def Obligations.ReadHoldingRegistersAccepted : Prop :=
  ∀ (start count : Word) (s : State),
    s.state = .idle → s.init = true → 1 ≤ count.toNat → count.toNat ≤ 125 →
    exec (.readHoldingRegisters start count) s = .next { s with
      req := { op := 1, fc := 3, a := start, b := count }
      txErr := false
      result := { done := false, kind := .success, rop := 0, excCode := 0, rcount := 0 }
      state := .buildFrame
      replies := s.replies ++ [.accepted] }

/-- R69, R100, R104: WRITE_SINGLE_REGISTER accepted, at every address and value. -/
def Obligations.WriteSingleRegisterAccepted : Prop :=
  ∀ (addr value : Word) (s : State),
    s.state = .idle → s.init = true →
    exec (.writeSingleRegister addr value) s = .next { s with
      req := { op := 2, fc := 6, a := addr, b := value }
      txErr := false
      result := { done := false, kind := .success, rop := 0, excCode := 0, rcount := 0 }
      state := .buildFrame
      replies := s.replies ++ [.accepted] }

/-- R69, R100, R105: READ_MOTOR_TELEMETRY accepted: a read of two registers at CFG_MAP_RPM. -/
def Obligations.ReadMotorTelemetryAccepted : Prop :=
  ∀ (a b : Word) (s : State),
    s.state = .idle → s.init = true →
    exec (.readMotorTelemetry a b) s = .next { s with
      req := { op := 3, fc := 3, a := s.cfg.mapRpm, b := 2 }
      txErr := false
      result := { done := false, kind := .success, rop := 0, excCode := 0, rcount := 0 }
      state := .buildFrame
      replies := s.replies ++ [.accepted] }

/-- R69, R100, R106, R111(a): SET_MOTOR_SPEED accepted: a write to CFG_MAP_SET_SPEED of the unsigned minimum of the value and
CFG_PROTOCOL_MAX. -/
def Obligations.SetMotorSpeedAccepted : Prop :=
  ∀ (value b : Word) (s : State),
    s.state = .idle → s.init = true →
    ∃ v : Word, v.toNat = min value.toNat s.cfg.protocolMax.toNat ∧
      exec (.setMotorSpeed value b) s = .next { s with
        req := { op := 4, fc := 6, a := s.cfg.mapSetSpeed, b := v }
        txErr := false
        result := { done := false, kind := .success, rop := 0, excCode := 0, rcount := 0 }
        state := .buildFrame
        replies := s.replies ++ [.accepted] }

/-- R69, R100, R107 to R109: the three Boolean motor commands accepted when their register parameter is present: a write of the
value for `true` or for `false`, chosen by bit 0 of the operand A. -/
def Obligations.BooleanMotorCommandsAccepted : Prop :=
  ∀ (a b addr : Word) (s : State), s.state = .idle → s.init = true →
    (s.params.mapEnable = some addr →
      exec (.setMotorEnable a b) s = .next { s with
        req := { op := 5, fc := 6, a := addr
                 b := if a.toNat % 2 = 1 then s.params.valEnableT else s.params.valEnableF }
        txErr := false
        result := { done := false, kind := .success, rop := 0, excCode := 0, rcount := 0 }
        state := .buildFrame
        replies := s.replies ++ [.accepted] }) ∧
    (s.params.mapDirection = some addr →
      exec (.setMotorDirection a b) s = .next { s with
        req := { op := 6, fc := 6, a := addr
                 b := if a.toNat % 2 = 1 then s.params.valDirectionT else s.params.valDirectionF }
        txErr := false
        result := { done := false, kind := .success, rop := 0, excCode := 0, rcount := 0 }
        state := .buildFrame
        replies := s.replies ++ [.accepted] }) ∧
    (s.params.mapBrake = some addr →
      exec (.setMotorBrake a b) s = .next { s with
        req := { op := 7, fc := 6, a := addr
                 b := if a.toNat % 2 = 1 then s.params.valBrakeT else s.params.valBrakeF }
        txErr := false
        result := { done := false, kind := .success, rop := 0, excCode := 0, rcount := 0 }
        state := .buildFrame
        replies := s.replies ++ [.accepted] })

/-- R71, R101: every command is refused while STATE is not IDLE, and in IDLE when it is ill formed by R71 (a) to (e): no state
of the block changes, not even DONE, and no wire event occurs. That a refusal is a step whose only trace is the port's answer is
the model's choice (log entry 5). -/
def Obligations.IllFormedOrBusyCommandRefused : Prop :=
  ∀ (w : BitVec 36) (s : State),
    (s.state ≠ .idle ∨
      8 ≤ w.toNat / 2 ^ 32 ∨
      (w.toNat / 2 ^ 32 = 1 ∧ (w.toNat % 2 ^ 16 = 0 ∨ 125 < w.toNat % 2 ^ 16)) ∨
      (w.toNat / 2 ^ 32 = 5 ∧ s.params.mapEnable = none) ∨
      (w.toNat / 2 ^ 32 = 6 ∧ s.params.mapDirection = none) ∨
      (w.toNat / 2 ^ 32 = 7 ∧ s.params.mapBrake = none) ∨
      (w.toNat / 2 ^ 32 = 0 ∧ (s.init = true ∨ s.cfg.slaveAddr.toNat = 0 ∨ 247 < s.cfg.slaveAddr.toNat ∨
        s.cfg.wrPmax = false ∨ s.cfg.wrTimeout = false)) ∨
      (w.toNat / 2 ^ 32 ≠ 0 ∧ s.init = false)) →
    exec (decodeCommand w) s = .next { s with replies := s.replies ++ [.refused] }

/-- R71(a), R101: opcodes 8 to 15 are refused in every state. -/
def Obligations.ReservedOpcodeRefused : Prop :=
  ∀ (low : BitVec 3) (a b : Word) (s : State),
    exec (.reservedOp low a b) s = .next { s with replies := s.replies ++ [.refused] }

/-- R73: operand bits the table of R60 says are ignored have no effect. -/
def Obligations.IgnoredOperandBitsHaveNoEffect : Prop :=
  ∀ (a b a' b' : Word) (s : State),
    exec (.initMaster a b) s = exec (.initMaster a' b') s ∧
    exec (.readMotorTelemetry a b) s = exec (.readMotorTelemetry a' b') s ∧
    exec (.setMotorSpeed a b) s = exec (.setMotorSpeed a b') s ∧
    (a.toNat % 2 = a'.toNat % 2 →
      exec (.setMotorEnable a b) s = exec (.setMotorEnable a' b') s ∧
      exec (.setMotorDirection a b) s = exec (.setMotorDirection a' b') s ∧
      exec (.setMotorBrake a b) s = exec (.setMotorBrake a' b') s)

/-- R106, 95_test_vectors.md E7: whatever the raw value, the frame that BUILD_FRAME puts into TXBUF after an accepted
SET_MOTOR_SPEED carries the clamped value, to CFG_MAP_SET_SPEED. -/
def Obligations.TransmittedSpeedIsClamped : Prop :=
  ∀ (value b : Word) (s : State), s.state = .idle → s.init = true → s.host = [] →
    ∃ (t u : State) (v : Word), exec (.setMotorSpeed value b) s = .next t ∧ step t = .next u ∧
      v.toNat = min value.toNat s.cfg.protocolMax.toNat ∧
      u.state = .transmit ∧
      u.txbuf.toList = encodeRequest s.cfg.slaveAddr 6 s.cfg.mapSetSpeed v

/-! ## Request frames on the wire (40_transport_adapter.md, 42_transaction_sequencer.md) -/

/-- R92(a), R124: a request frame in TRANSMIT with outcome ok: its eight bytes go out in order and FLUSH_TRANSMIT follows;
nothing else changes. The outcome is taken from the environment's list (log entry 8). -/
def Obligations.RequestFrameTransmitted : Prop :=
  ∀ (slave : Byte) (a b crc : Word) (s : State) (later : List WriteOutcome),
    s.state = .transmit → s.env.writes = .ok :: later →
    exec (.fc3Request slave a b crc) s = .next { s with
      env := { s.env with writes := later }
      state := .flushTransmit
      trace := s.trace ++ [.tx slave, .tx 3, .tx (hi8 a), .tx (lo8 a), .tx (hi8 b), .tx (lo8 b), .tx (lo8 crc),
        .tx (hi8 crc)] } ∧
    exec (.fc6Request slave a b crc) s = .next { s with
      env := { s.env with writes := later }
      state := .flushTransmit
      trace := s.trace ++ [.tx slave, .tx 6, .tx (hi8 a), .tx (lo8 a), .tx (hi8 b), .tx (lo8 b), .tx (lo8 crc),
        .tx (hi8 crc)] }

/-- R92(b), R125, R127: a request frame in TRANSMIT with a fault after `k` bytes, `k` from 0 to 8: those bytes and TXFAULT
appear, TXERR is set, and RECEIVE is entered with the line driven LOW (log entry 6). -/
def Obligations.RequestFrameTransmitFault : Prop :=
  ∀ (slave : Byte) (a b crc : Word) (s : State) (k : Fin 9) (later : List WriteOutcome),
    s.state = .transmit → s.env.writes = .fault k :: later →
    exec (.fc3Request slave a b crc) s = .next { s with
      env := { s.env with writes := later }
      txErr := true
      state := .receive
      dir := .low
      trace := s.trace ++ (([slave, 3, hi8 a, lo8 a, hi8 b, lo8 b, lo8 crc, hi8 crc].take k.val).map .tx
        ++ [.txFault, .dir .low]) } ∧
    exec (.fc6Request slave a b crc) s = .next { s with
      env := { s.env with writes := later }
      txErr := true
      state := .receive
      dir := .low
      trace := s.trace ++ (([slave, 6, hi8 a, lo8 a, hi8 b, lo8 b, lo8 crc, hi8 crc].take k.val).map .tx
        ++ [.txFault, .dir .low]) }

/-! ## Received frames (44_frame_codec.md) -/

/-- R186, R187, R190: a CRC-correct function-code-3 response of the length of the request in flight, whatever its slave address
and byte count: its values go to RDATA, RESULT presents Success, STATE is IDLE; RDATA above RCOUNT and everything else is
unchanged, but for the CRC unit, which the validator ran. -/
def Obligations.ReadResponseDecoded : Prop :=
  ∀ (slave byteCount : Byte) (values : List Word) (s : State),
    s.state = .validate → s.req.fc = 3 → s.req.b.toNat = values.length → values.length ≤ 125 →
    ∃ t, exec (.fc3Response slave byteCount values (crc16 (slave :: 3 :: byteCount :: wordBytes values))) s = .next t ∧
      t = { s with
        crc := crc16 (slave :: 3 :: byteCount :: wordBytes values)
        result := { done := true, kind := .success, rop := s.req.op, excCode := 0
                    rcount := BitVec.ofNat 8 values.length }
        rdata := t.rdata
        state := .idle } ∧
      t.payload = values ∧
      ∀ j : Fin 125, values.length ≤ j.val → t.rdata[j] = s.rdata[j]

/-- R182, R203, R216: a received frame of any class whose CRC is wrong ends the transaction with CrcMismatch, whatever else it
holds; nothing of it reaches RDATA. That STATE is IDLE after the step, ERROR_REPORTED being merged with it, is the model's
choice, which R134 allows (log entry 15). -/
def Obligations.DamagedFrameIsCrcMismatch : Prop :=
  ∀ (i : Instr) (f : List Byte) (s : State),
    encode i = .response f → s.state = .validate → crcOk f = false →
    exec i s = .next { s with
      crc := crc16 (f.take (f.length - 2))
      result := { done := true, kind := .crcMismatch, rop := s.req.op, excCode := 0, rcount := 0 }
      state := .idle }

/-- R185, R190, R206: a CRC-correct function-code-6 response to a write: Success if and only if address and value are those of
the request, else EchoMismatch. STATE after a failure: log entry 15. -/
def Obligations.WriteEchoJudged : Prop :=
  ∀ (slave : Byte) (addr value : Word) (s : State),
    s.state = .validate → s.req.fc = 6 →
    exec (.fc6Response slave addr value (crc16 [slave, 6, hi8 addr, lo8 addr, hi8 value, lo8 value])) s =
      .next (if addr = s.req.a ∧ value = s.req.b then
        { s with
          crc := crc16 [slave, 6, hi8 addr, lo8 addr, hi8 value, lo8 value]
          result := { done := true, kind := .success, rop := s.req.op, excCode := 0, rcount := 0 }
          state := .idle }
      else
        { s with
          crc := crc16 [slave, 6, hi8 addr, lo8 addr, hi8 value, lo8 value]
          result := { done := true, kind := .echoMismatch, rop := s.req.op, excCode := 0, rcount := 0 }
          state := .idle })

/-- R183, R204, R216: a CRC-correct exception response to the request in flight: Failure(ExceptionResponse) with the slave's
code, unchanged, for both function codes. STATE after a failure: log entry 15. -/
def Obligations.ExceptionResponseReported : Prop :=
  ∀ (slave code : Byte) (s : State), s.state = .validate →
    (s.req.fc = 3 →
      exec (.exceptionResponseFc3 slave code (crc16 [slave, 0x83, code])) s = .next { s with
        crc := crc16 [slave, 0x83, code]
        result := { done := true, kind := .exceptionResponse, rop := s.req.op, excCode := code, rcount := 0 }
        state := .idle }) ∧
    (s.req.fc = 6 →
      exec (.exceptionResponseFc6 slave code (crc16 [slave, 0x86, code])) s = .next { s with
        crc := crc16 [slave, 0x86, code]
        result := { done := true, kind := .exceptionResponse, rop := s.req.op, excCode := code, rcount := 0 }
        state := .idle })

/-- R184, R206(a): a CRC-correct frame whose byte 1 is neither REQ_FC nor REQ_FC with bit 7 set ends in EchoMismatch, for reads
and writes alike. STATE after a failure: log entry 15. -/
def Obligations.OtherFunctionByteIsEchoMismatch : Prop :=
  ∀ (slave function : Byte) (rest : List Byte) (s : State),
    s.state = .validate → function ≠ s.req.fc → function ≠ s.req.fc ||| 0x80 →
    crcOk (slave :: function :: rest) = true →
    exec (.otherFunctionByte slave function rest) s = .next { s with
      crc := crc16 ((slave :: function :: rest).take rest.length)
      result := { done := true, kind := .echoMismatch, rop := s.req.op, excCode := 0, rcount := 0 }
      state := .idle }

/-- R181, R206(a): a CRC-correct frame of one function code's rows judged under a request of the other is an EchoMismatch
(95_test_vectors.md V39, V66). The decoder reads such bytes as OTHER_FUNCTION_BYTE (R67) and gives none of these rows under the
other REQ_FC; that a row has its meaning there too, whatever class it was decoded as, is the model's choice (log entry 9).
STATE after a failure: log entry 15. -/
def Obligations.ForeignClassIsEchoMismatch : Prop :=
  ∀ (i : Instr) (f : List Byte) (s : State),
    encode i = .response f → s.state = .validate → (s.req.fc = 3 ∨ s.req.fc = 6) → i.receivedUnder s.req.fc = false →
    (∀ slave function rest, i ≠ .otherFunctionByte slave function rest) → crcOk f = true →
    exec i s = .next { s with
      crc := crc16 (f.take (f.length - 2))
      result := { done := true, kind := .echoMismatch, rop := s.req.op, excCode := 0, rcount := 0 }
      state := .idle }

/-- A frame changes nothing outside the state of the sequencer that runs it: a request frame runs in TRANSMIT only, a received
frame in VALIDATE only. The model's choice (log entry 9), from "no other transition exists" (R120). -/
def Obligations.FramesRunInTheirStateOnly : Prop :=
  ∀ (i : Instr) (f : List Byte) (s : State),
    (encode i = .request f → s.state ≠ .transmit → exec i s = .next s) ∧
    (encode i = .response f → s.state ≠ .validate → exec i s = .next s)

/-! ## The sequencer's other steps (42_transaction_sequencer.md) -/

/-- R122, R123, R165: BUILD_FRAME puts the request frame into TXBUF through the CRC unit, and TRANSMIT is entered with the line
driven HIGH. That entering TRANSMIT is part of this step is the model's reading (log entry 6). -/
def Obligations.BuildFrameStep : Prop :=
  ∀ s : State, s.host = [] → s.state = .buildFrame →
    ∃ t, step s = .next t ∧
      t = { s with txbuf := t.txbuf, crc := t.crc, state := .transmit, dir := .high, trace := s.trace ++ [.dir .high] } ∧
      t.txbuf.toList = encodeRequest s.cfg.slaveAddr s.req.fc s.req.a s.req.b ∧
      t.crc = crc16 [s.cfg.slaveAddr, s.req.fc, hi8 s.req.a, lo8 s.req.a, hi8 s.req.b, lo8 s.req.b]

/-- R126, R127: FLUSH_TRANSMIT on FLUSHED: RECEIVE is entered, the line driven LOW after FLUSHED (log entry 6). -/
def Obligations.FlushedLeadsToReceive : Prop :=
  ∀ (s : State) (n : Nat), s.host = [] → s.state = .flushTransmit → s.env.flushes = n + 1 →
    step s = .next { s with
      env := { s.env with flushes := n }
      state := .receive
      dir := .low
      trace := s.trace ++ [.flushed, .dir .low] }

/-- R127, R128, R216: RECEIVE reports IoError after a transmit fault; otherwise the response window opens. The model's choices:
STATE after a failure (log entry 15); RXEXP and the bytes of RXBUF, which have no value when the window opens, keep their earlier
contents in storage (log entry 21). -/
def Obligations.ReceiveStep : Prop :=
  ∀ s : State, s.host = [] → s.state = .receive →
    (s.txErr = true → step s = .next { s with
      result := { done := true, kind := .ioError, rop := s.req.op, excCode := 0, rcount := 0 }
      state := .idle }) ∧
    (s.txErr = false → step s = .next { s with rxcnt := 0, window := true, state := .awaitResponse })

/-- R129, R130, R180: a byte of an incomplete response is stored at RXCNT; with the second byte RXEXP becomes the expected
length; with the last byte the window closes and VALIDATE is entered in the same step (log entry 16). The state is one that
the invariant allows in AWAIT_RESPONSE. That RXEXP before the second byte, and the bytes of RXBUF from the new RXCNT on, keep
their earlier contents is the model's choice (log entry 21): the spec gives them no value. -/
def Obligations.ResponseByteStored : Prop :=
  ∀ (s : State) (b : Byte) (later : List ReceiveEvent), s.Inv → s.host = [] → s.state = .awaitResponse →
    s.env.receive = .byte b :: later →
    ∃ t, step s = .next t ∧
      t = { s with
        rxbuf := t.rxbuf, rxcnt := t.rxcnt, rxexp := t.rxexp
        env := { s.env with receive := later }
        trace := s.trace ++ [.rx b]
        state := if 2 ≤ s.rxcnt.toNat + 1 ∧ s.rxcnt.toNat + 1 = t.rxexp.toNat then .validate else .awaitResponse
        window := decide (¬ (2 ≤ s.rxcnt.toNat + 1 ∧ s.rxcnt.toNat + 1 = t.rxexp.toNat)) } ∧
      t.rxbuf.toList = s.rxbuf.toList.set s.rxcnt.toNat b ∧
      t.rxcnt.toNat = s.rxcnt.toNat + 1 ∧
      (s.rxcnt.toNat + 1 = 2 → t.rxexp.toNat = expectedLength s.req.fc s.req.b b) ∧
      (s.rxcnt.toNat + 1 ≠ 2 → t.rxexp = s.rxexp)

/-- R131, R202, R216: TIMEOUT in AWAIT_RESPONSE with an incomplete response, whatever RXCNT is; and R97(b): where no byte comes
any more TIMEOUT does occur. That an empty list means that no byte comes is log entry 8; STATE after a failure log entry 15. -/
def Obligations.TimeoutReported : Prop :=
  ∀ (s : State) (later : List ReceiveEvent), s.host = [] → s.state = .awaitResponse →
    (s.rxcnt.toNat < 2 ∨ s.rxcnt ≠ s.rxexp) →
    (s.env.receive = .timeout :: later ∨ s.env.receive = [] ∧ later = []) →
    step s = .next { s with
      window := false
      env := { s.env with receive := later }
      trace := s.trace ++ [.timeout]
      result := { done := true, kind := .timeout, rop := s.req.op, excCode := 0, rcount := 0 }
      state := .idle }

/-- R134, R218: ERROR_REPORTED leads to IDLE unconditionally; nothing else is written. No run of the model stands in
ERROR_REPORTED between two steps (log entry 15). -/
def Obligations.ErrorReportedReturns : Prop :=
  ∀ s : State, s.host = [] → s.state = .errorReported → step s = .next { s with state := .idle }

/-- R121, R126, R262: where the block waits for an event that has not come, nothing changes: in IDLE for a command, in
FLUSH_TRANSMIT for FLUSHED, the hang with the line HIGH. That a wait is a step without effect is the model's choice (log entry
8). -/
def Obligations.WaitingChangesNothing : Prop :=
  ∀ s : State, s.host = [] →
    (s.state = .idle → step s = .next s) ∧
    (s.state = .flushTransmit → s.env.flushes = 0 → step s = .next s)

/-! ## The host's registers and reset (10_state.md, 70_reset_and_hazards.md) -/

/-- R12, R23, R24: a host write takes effect on registers 0 to 5 if and only if INIT = 0, keeps the low bits of the register's
width, and sets the written flags; elsewhere it is ignored. The width of CFG_TIMEOUT is a parameter (log entry 18). -/
def Obligations.HostRegisterWrites : Prop :=
  ∀ (s : State) (n v : Nat) (later : List Action), s.host = .writeReg n v :: later →
    (s.init = true ∨ 6 ≤ n → step s = .next { s with host := later }) ∧
    (s.init = false →
      (n = 0 → step s = .next { s with host := later, cfg := { s.cfg with slaveAddr := BitVec.ofNat 8 v } }) ∧
      (n = 1 → step s = .next { s with host := later, cfg := { s.cfg with mapRpm := BitVec.ofNat 16 v } }) ∧
      (n = 2 → step s = .next { s with host := later, cfg := { s.cfg with mapCurrent := BitVec.ofNat 16 v } }) ∧
      (n = 3 → step s = .next { s with host := later, cfg := { s.cfg with mapSetSpeed := BitVec.ofNat 16 v } }) ∧
      (n = 4 → step s = .next { s with
        host := later, cfg := { s.cfg with protocolMax := BitVec.ofNat 16 v, wrPmax := true } }) ∧
      (n = 5 → step s = .next { s with
        host := later, cfg := { s.cfg with timeout := v % 2 ^ s.params.timeoutWidth, wrTimeout := true } }))

/-- R11, R22, R23, R25, R26: a host read answers with the register of the map, changes nothing of the block, and gives 0 for a
number that does not exist. STATUS and RESULT are composed as the rules' tables say. The free values outside the validity of
RDATA and of the two required registers are log entry 4; `freeCount` and `replies` are the model's. -/
def Obligations.HostRegisterReads : Prop :=
  ∀ (s : State) (n : Nat) (later : List Action), s.host = .readReg n :: later →
    ∃ v : Nat,
      step s = .next { s with
        host := later, replies := s.replies ++ [.data n v], freeCount := s.freeCount + 1 } ∧
      (n = 0 → v = s.cfg.slaveAddr.toNat) ∧ (n = 1 → v = s.cfg.mapRpm.toNat) ∧
      (n = 2 → v = s.cfg.mapCurrent.toNat) ∧ (n = 3 → v = s.cfg.mapSetSpeed.toNat) ∧
      (n = 4 → s.cfg.wrPmax = true → v = s.cfg.protocolMax.toNat) ∧
      (n = 5 → s.cfg.wrTimeout = true → v = s.cfg.timeout) ∧
      (n = 16 → v = (if s.state = .idle then 128 else 0) + s.state.code.toNat * 16 +
        (if s.dir = .high then 8 else 0) + (if s.result.done then 4 else 0) + (if s.state = .idle then 0 else 2) +
        (if s.init then 1 else 0)) ∧
      (n = 17 → s.result.done = true → v = 2 ^ 31 + s.result.rcount.toNat * 2 ^ 16 + s.result.excCode.toNat * 2 ^ 8 +
        s.result.rop.toNat * 2 ^ 4 + s.result.kind.code.toNat) ∧
      (n = 17 → s.result.done = false → v = 0) ∧
      (∀ j : Fin 125, n = 32 + j.val → s.result.done = true → s.result.kind = .success →
        j.val < s.result.rcount.toNat → v = s.rdata[j].toNat) ∧
      ((6 ≤ n ∧ n ≤ 15) ∨ (18 ≤ n ∧ n ≤ 31) ∨ 157 ≤ n → v = 0)

/-- R27: the telemetry view shows RDATA[0] and RDATA[1] exactly after a successful READ_MOTOR_TELEMETRY. -/
def Obligations.TelemetryView : Prop :=
  ∀ (s : State) (m : MotorTelemetry),
    s.telemetry = some m ↔
      s.result.done = true ∧ s.result.kind = .success ∧ s.result.rop = 3 ∧ s.result.rcount = 2 ∧
        m.rpm = s.rdata[0] ∧ m.current = s.rdata[1]

/-- R31: the reset values the spec gives. -/
def Obligations.ResetValues : Prop :=
  State.reset.cfg.slaveAddr = 0x64 ∧ State.reset.cfg.mapRpm = 0x0015 ∧ State.reset.cfg.mapCurrent = 0x0016 ∧
  State.reset.cfg.mapSetSpeed = 0x0001 ∧ State.reset.cfg.wrPmax = false ∧ State.reset.cfg.wrTimeout = false ∧
  State.reset.init = false ∧ State.reset.state = .idle ∧ State.reset.dir = .low ∧ State.reset.rxcnt = 0 ∧
  State.reset.window = false ∧ State.reset.txErr = false ∧ State.reset.result.done = false ∧
  State.reset.result.kind.code = 0 ∧ State.reset.result.rop = 0 ∧ State.reset.result.excCode = 0 ∧
  State.reset.result.rcount = 0

/-- R240, R241: reset in any state gives every register of the block its reset value and emits no event of its own; a
transmission it cuts off shows a prefix of the frame (log entry 12). The environment, the parameters and what was observed
stay. -/
def Obligations.ResetInputFromAnyState : Prop :=
  ∀ (s : State) (k : Fin 9) (later : List Action), s.host = .reset k :: later →
    step s = .next { State.reset with
      params := s.params, host := later, env := s.env, replies := s.replies, freeCount := s.freeCount
      trace := s.trace ++ (if s.state = .transmit then (s.txbuf.toList.take k.val).map .tx else []) }

/-- R250: when an outside agent breaks a precondition the machine stops with that fault, in every state, and in no other way:
a step that faults met such an action. -/
def Obligations.OnlyBrokenPreconditionsFault : Prop :=
  ∀ s : State,
    (∀ v later, s.host = .violation v :: later → step s = .fault (.preconditionBroken v)) ∧
    (∀ r, step s = .fault r → ∃ v later, s.host = .violation v :: later ∧ r = .preconditionBroken v)

/-! ## The step -/

/-- R5, R9: a step runs the decoded instruction: the command word the host presents, with that action taken off the host's
list; the frame in TXBUF in TRANSMIT; the frame in RXBUF[0..RXEXP] in VALIDATE, under REQ_FC. The host's list is the model's
(log entry 1); where the frames stand is log entry 9. -/
def Obligations.StepRunsDecodedInstruction : Prop :=
  ∀ (s : State) (i : Instr),
    (∀ w later, s.host = .command w :: later → decode s.req.fc (.command w) = .ok i →
      step s = exec i { s with host := later }) ∧
    (s.host = [] → s.state = .transmit → decode s.req.fc (.request s.txbuf.toList) = .ok i → step s = exec i s) ∧
    (s.host = [] → s.state = .validate →
      decode s.req.fc (.response (s.rxbuf.toList.take s.rxexp.toNat)) = .ok i → step s = exec i s)

/-- Every instruction runs: exec answers a next state for every instruction in every state, never a fault or a refusal. The
model's choice where the spec gives no step: a refused command (log entry 5, where R101 gives it none) and a frame outside the
state that runs it (log entry 9) answer a next state, and a write always has an outcome (log entry 22). -/
def Obligations.EveryInstructionRuns : Prop :=
  ∀ (i : Instr) (s : State), ∃ t, exec i s = .next t

/-- What the host may do while the block works (log entry 1): under `letRun`, and under `awaitReady` while STATE is not IDLE, the
block takes the very step it takes when the host does nothing; in IDLE `awaitReady` is over. -/
def Obligations.HostLetsTheBlockRun : Prop :=
  ∀ (s : State) (later : List Action),
    (s.host = .letRun :: later →
      ∀ t, step { s with host := [] } = .next t → step s = .next { t with host := later }) ∧
    (s.host = .awaitReady :: later → s.state ≠ .idle →
      ∀ t, step { s with host := [] } = .next t → step s = .next { t with host := s.host }) ∧
    (s.host = .awaitReady :: later → s.state = .idle → step s = .next { s with host := later })

/-! ## Invariants and whole-machine rules -/

/-- R32 holds at reset, and so does the half-duplex order. -/
def Obligations.InvariantHoldsAtReset : Prop := State.reset.Inv ∧ State.reset.HalfDuplex

/-- R32, (a) to (g): every step of every state that meets the invariant gives a state that meets it, whatever the host and the
environment do, reset included. The invariant's supporting clauses rest on the merge of ERROR_REPORTED (log entry 15), the entry
actions (log entry 6) and the cleared RESULT fields (log entry 7). -/
def Obligations.InvariantKeptByEveryStep : Prop :=
  ∀ s t : State, s.Inv → step s = .next t → t.Inv

/-- R136, 95_test_vectors.md E4: the half-duplex order of the wire events is kept by every step: transmit events only after
DIR(HIGH) and before DIR(LOW), receive events only after DIR(LOW) and before DIR(HIGH). -/
def Obligations.HalfDuplexOrderKept : Prop :=
  ∀ s t : State, s.HalfDuplex → step s = .next t → t.HalfDuplex

/-- In a state that meets the invariant a step never refuses: it answers a next state, or the fault of a broken precondition.
The model's choice, not the spec's: a refused command is a step (log entry 5), a wait is a step, the hang of R262 among them
(log entry 8), and a broken precondition is a fault (log entry 13). -/
def Obligations.InvariantStatesNeverRefuse : Prop :=
  ∀ s : State, s.Inv → (∃ t, step s = .next t) ∨ (∃ v later, s.host = .violation v :: later)

/-- R120: apart from reset, a step leaves STATE or changes it along an edge of the table ("no other transition exists"), or
along two edges through ERROR_REPORTED, which the model merges with the IDLE after it (R134, log entry 15); and where the host
does nothing STATE can stay the same only in IDLE, FLUSH_TRANSMIT and AWAIT_RESPONSE. -/
def Obligations.OnlyListedTransitions : Prop :=
  ∀ s t : State, (∀ k later, s.host ≠ .reset k :: later) → step s = .next t →
    (t.state = s.state ∨ transitionTaken s.state t.state = true) ∧
    (s.host = [] → t.state = s.state → mayKeepState s.state = true)

/-- R12, R13, R24, R220: once INIT = 1 nothing but reset changes a configuration register, a written flag or INIT. -/
def Obligations.ConfigurationFrozenOnceInitialized : Prop :=
  ∀ s t : State, s.init = true → (∀ k later, s.host ≠ .reset k :: later) → step s = .next t →
    t.cfg = s.cfg ∧ t.init = true

/-- R15, R32(b): apart from reset, DIR goes HIGH only on entering TRANSMIT from BUILD_FRAME, and goes LOW only on entering
RECEIVE from TRANSMIT or FLUSH_TRANSMIT or, in IDLE, by INITIALIZE. That the step which enters TRANSMIT or RECEIVE is the one
that drives the line is the model's reading (log entry 6). -/
def Obligations.DirectionLineWriters : Prop :=
  ∀ s t : State, (∀ k later, s.host ≠ .reset k :: later) → step s = .next t →
    (s.dir = .low → t.dir = .high → s.state = .buildFrame ∧ t.state = .transmit) ∧
    (s.dir = .high → t.dir = .low →
      ((s.state = .transmit ∨ s.state = .flushTransmit) ∧ t.state = .receive) ∨
      (s.state = .idle ∧ s.init = false ∧ t.init = true))

/-- R28, R102, R190, R216: a step other than reset does one of five things to RESULT and RDATA. It leaves both; or it accepts
a command, in IDLE, and clears RESULT (its fields too, log entry 7); or it is INITIALIZE, in IDLE, with the whole RESULT of R102;
or it ends the transaction in flight with a failure of its state, the whole RESULT of R216 and RDATA untouched; or it ends it in
VALIDATE with Success, the whole RESULT and the whole payload of R190 in the one step. After either end STATE is IDLE. The
model's choices: STATE after a failure (log entry 15); RDATA outside its validity keeps its contents (log entry 4). -/
def Obligations.ResultWrittenOnlyAtTheEnd : Prop :=
  ∀ s t : State, (∀ k later, s.host ≠ .reset k :: later) → step s = .next t →
    (t.result = s.result ∧ t.rdata = s.rdata) ∨
    (s.state = .idle ∧ t.state = .buildFrame ∧ t.result = ResultReg.cleared ∧ t.rdata = s.rdata) ∨
    (s.state = .idle ∧ t.state = .idle ∧ s.init = false ∧ t.init = true ∧
      t.result = { done := true, kind := .success, rop := 0, excCode := 0, rcount := 0 } ∧ t.rdata = s.rdata) ∨
    (∃ k : ErrorKind,
      ((s.state = .receive ∧ s.txErr = true ∧ k = .ioError) ∨ (s.state = .awaitResponse ∧ k = .timeout) ∨
        (s.state = .validate ∧
          validate s.req.fc s.req.a s.req.b (s.rxbuf.toList.take s.rxexp.toNat) = .failure k)) ∧
      t.state = .idle ∧ t.result = resultRegOf s.req.op (.failure k) ∧ t.rdata = s.rdata) ∨
    (∃ payload : List Word, s.state = .validate ∧
      validate s.req.fc s.req.a s.req.b (s.rxbuf.toList.take s.rxexp.toNat) = .success payload ∧
      t.state = .idle ∧ t.result = resultRegOf s.req.op (.success payload) ∧
      ∀ j : Fin 125, t.rdata[j] = payload[j.val]?.getD s.rdata[j])

/-- R16, R50: the request latches change only when a command is accepted, or by reset. -/
def Obligations.RequestLatchesConstantInFlight : Prop :=
  ∀ s t : State, s.state ≠ .idle → (∀ k later, s.host ≠ .reset k :: later) → step s = .next t → t.req = s.req

/-! ## Whole transactions -/

/-- R135, R136, R191: from BUILD_FRAME in a state that meets the invariant, with the host waiting and an environment that gives
the write outcome `txo`, FLUSHED, and the bytes `rx` before the end of the window, the block comes to IDLE with `DIR = LOW`;
RESULT presents `outcome(req, txo, rx)`, the wire trace grows by exactly the shape of R136, and bytes after the expected length
stay in the transport. The environment's lists are log entry 8. -/
def Obligations.TransactionRunsToItsOutcome : Prop :=
  ∀ (s : State) (txo : WriteOutcome) (writes : List WriteOutcome) (rx : List Byte) (n : Nat) (later : List ReceiveEvent),
    s.Inv → s.hostWaits → s.state = .buildFrame →
    s.env = { writes := txo :: writes, flushes := n + 1
              receive := receiveScript s.req.fc s.req.b rx ++ later } →
    ∃ (k : Nat) (t : State), Sys2Proof.core.run k s = .next t ∧
      t.state = .idle ∧ t.dir = .low ∧ t.window = false ∧
      t.result = resultRegOf s.req.op (outcome s.req.fc s.req.a s.req.b txo rx) ∧
      (∀ p, outcome s.req.fc s.req.a s.req.b txo rx = .success p → t.payload = p) ∧
      t.trace = s.trace ++ transactionTrace (encodeRequest s.cfg.slaveAddr s.req.fc s.req.a s.req.b)
        s.req.fc s.req.b txo rx ∧
      t.env = (match txo with
        | .ok => { writes := writes, flushes := n, receive := receiveLeft s.req.fc s.req.b rx ++ later }
        | .fault _ => { writes := writes, flushes := n + 1, receive := receiveScript s.req.fc s.req.b rx ++ later }) ∧
      t.cfg = s.cfg ∧ t.init = s.init ∧ t.req = s.req ∧ t.host = s.host ∧ t.params = s.params ∧ t.replies = s.replies

/-- R94, R97(b), R132, 95_test_vectors.md E5: AWAIT_RESPONSE always ends. Whatever the receive path shows, and if it shows
nothing, the block is back in IDLE with a result after at most one step more than the receive path is long: it never blocks
indefinitely. The bound is the model's, one event of the list a step (log entry 8). -/
def Obligations.ResponseWindowBoundsTheWait : Prop :=
  ∀ s : State, s.Inv → s.host = [] → s.state = .awaitResponse →
    ∃ (k : Nat) (t : State), k ≤ s.env.receive.length + 1 ∧ Sys2Proof.core.run k s = .next t ∧ t.state = .idle ∧
      t.dir = .low ∧ t.result.done = true

/-- R48, 95_test_vectors.md E3: WRITE_SINGLE_REGISTER(a, v) and then READ_HOLDING_REGISTERS(a, 1), against a simulated slave that
echoes state and no other disturbance: the write returns Success, and the read returns `[v]`. `t` is the end of the write, with
the read still to be presented; `u` is the end of the read. The slave is the assumption R48 names (log entry 17); the host's
list is log entry 1. -/
def Obligations.WriteThenReadReturnsTheValue : Prop :=
  ∀ (s : State) (a v : Word) (sl : Slave) (writes : List WriteOutcome) (n : Nat) (later : List ReceiveEvent),
    s.Inv → s.state = .idle → s.init = true → sl.addr = s.cfg.slaveAddr → sl.cells.wf = true →
    s.host = [.command (commandWord 2 a v), .awaitReady, .command (commandWord 1 a 1), .awaitReady] →
    s.env = { writes := .ok :: .ok :: writes, flushes := n + 2
              receive := ((sl.respond (encodeRequest s.cfg.slaveAddr 6 a v)).2.map .byte ++
                ((sl.respond (encodeRequest s.cfg.slaveAddr 6 a v)).1.respond
                  (encodeRequest s.cfg.slaveAddr 3 a 1)).2.map .byte) ++ later } →
    ∃ (j k : Nat) (t u : State), j ≤ k ∧
      Sys2Proof.core.run j s = .next t ∧ t.state = .idle ∧ t.host = [.command (commandWord 1 a 1), .awaitReady] ∧
      t.req = { op := 2, fc := 6, a := a, b := v } ∧ t.transactionResult = some (.success []) ∧
      Sys2Proof.core.run k s = .next u ∧ u.state = .idle ∧ u.host = [] ∧
      u.req = { op := 1, fc := 3, a := a, b := 1 } ∧ u.transactionResult = some (.success [v]) ∧
      u.env.receive = later

/-! ## A write always returns -/

/-- R92 ("It returns in finite time in both outcomes"), R124, R125: in TRANSMIT, whatever the environment, a request frame's
write comes to an outcome: ok, with every byte of the frame sent and FLUSH_TRANSMIT next, or a fault after `k` bytes, with those
and TXFAULT, TXERR set and RECEIVE entered (log entry 6). The outcome is the head of the environment's list, used up by the
step; where the list is empty it is any outcome, a free value of the model, and the model's counter advances (log entry 22). -/
def Obligations.WriteAlwaysReturns : Prop :=
  ∀ (i : Instr) (f : List Byte) (s : State), encode i = .request f → s.state = .transmit →
    ∃ o : WriteOutcome,
      (s.env.writes = [] ∨ ∃ later, s.env.writes = o :: later) ∧
      exec i s = .next (match o with
        | .ok => { s with
            env := { s.env with writes := s.env.writes.tail }
            freeCount := if s.env.writes = [] then s.freeCount + 1 else s.freeCount
            state := .flushTransmit
            trace := s.trace ++ f.map .tx }
        | .fault k => { s with
            env := { s.env with writes := s.env.writes.tail }
            freeCount := if s.env.writes = [] then s.freeCount + 1 else s.freeCount
            txErr := true
            state := .receive
            dir := .low
            trace := s.trace ++ ((f.take k.val).map .tx ++ [.txFault, .dir .low]) })
end

