-- ==== Sys2Proof/Laws/Bytes.lean ====
section
/-! SUPPORT. Bytes and words, lists of register values, and storing a list into a buffer. -/

namespace Sys2Proof

theorem toNat_joinBytes (h l : Byte) : (joinBytes h l).toNat = h.toNat * 256 + l.toNat := by
  have e : (joinBytes h l).toNat = h.toNat <<< 8 ||| l.toNat := BitVec.toNat_append h l
  have := Nat.two_pow_add_eq_or_of_lt (i := 8) l.isLt h.toNat
  rw [e, Nat.shiftLeft_eq, Nat.mul_comm, ← this]

theorem toNat_hi8 (w : Word) : (hi8 w).toNat = w.toNat / 256 := by
  simp [hi8, BitVec.extractLsb'_toNat, Nat.shiftRight_eq_div_pow]
  omega

theorem toNat_lo8 (w : Word) : (lo8 w).toNat = w.toNat % 256 := by
  simp [lo8, BitVec.extractLsb'_toNat]

@[simp] theorem hi8_joinBytes (h l : Byte) : hi8 (joinBytes h l) = h := by
  apply BitVec.eq_of_toNat_eq
  rw [toNat_hi8, toNat_joinBytes]
  omega

@[simp] theorem lo8_joinBytes (h l : Byte) : lo8 (joinBytes h l) = l := by
  apply BitVec.eq_of_toNat_eq
  rw [toNat_lo8, toNat_joinBytes]
  omega

@[simp] theorem joinBytes_hi8_lo8 (w : Word) : joinBytes (hi8 w) (lo8 w) = w := by
  apply BitVec.eq_of_toNat_eq
  rw [toNat_joinBytes, toNat_hi8, toNat_lo8]
  omega

@[simp] theorem length_wordBytes (ws : List Word) : (wordBytes ws).length = 2 * ws.length := by
  induction ws with
  | nil => rfl
  | cons w ws ih => simp [wordBytes, ih]; omega

/-- Splitting what `wordBytes` and the CRC bytes make gives the words and the CRC back (30_encoding.md R64). -/
theorem splitValues_wordBytes (ws : List Word) (cl ch : Byte) :
    splitValues (wordBytes ws ++ [cl, ch]) = some (ws, joinBytes ch cl) := by
  induction ws with
  | nil => rfl
  | cons w ws ih =>
    match h : wordBytes ws ++ [cl, ch] with
    | [] => simp at h
    | x :: xs => rw [h] at ih; simp [wordBytes, h, splitValues, ih]

end Sys2Proof

namespace Sys2Proof.Machine

/-- The first bytes of a buffer after a list is stored at its front. -/
theorem take_storeFrom {α : Type} {n : Nat} (l : List α) (v : Vector α n) (i : Nat) (h : i + l.length ≤ n) :
    (storeFrom v i l).toList.take (i + l.length) = v.toList.take i ++ l := by
  induction l generalizing v i with
  | nil => simp [storeFrom]
  | cons x xs ih =>
    have hi : i < n := by simp at h; omega
    have := ih (v.setIfInBounds i x) (i + 1) (by simp at h; omega)
    simp only [storeFrom, List.length_cons]
    rw [show i + (xs.length + 1) = i + 1 + xs.length by omega, this]
    have hl : i < v.toList.length := by simpa using hi
    rw [Vector.toList_setIfInBounds, List.take_succ_eq_append_getElem (by simpa using hl)]
    simp [List.take_set_of_le]

/-- A frame that fills the buffer is the buffer. -/
theorem toList_storeFrom_full {α : Type} {n : Nat} (l : List α) (v : Vector α n) (h : l.length = n) :
    (storeFrom v 0 l).toList = l := by
  have := take_storeFrom l v 0 (by omega)
  rw [Nat.zero_add, h, List.take_of_length_le (by simp)] at this
  simpa using this

/-- Storing a list leaves the places before it and after it alone. -/
theorem getElem_storeFrom_outside {α : Type} {n : Nat} (l : List α) (v : Vector α n) (i j : Nat) (hj : j < n)
    (h : j < i ∨ i + l.length ≤ j) : (storeFrom v i l)[j] = v[j] := by
  induction l generalizing v i with
  | nil => rfl
  | cons x xs ih =>
    simp only [storeFrom]
    rw [ih (v.setIfInBounds i x) (i + 1) (by simp at h; omega)]
    have : i ≠ j := by simp at h; omega
    simp [this]

end Sys2Proof.Machine
end

