-- ==== Sys2Proof/Laws/Crc.lean ====
section
/-! SUPPORT. The CRC step is linear over XOR and loses nothing (spec 43_crc16.md R158): the lemmas every statement about the CRC
rests on. -/

namespace Sys2Proof.Machine

/-- One iteration is linear over XOR. -/
theorem crcShift_xor (a b : Word) : crcShift (a ^^^ b) = crcShift a ^^^ crcShift b := by
  have hs : (a ^^^ b) >>> 1 = a >>> 1 ^^^ b >>> 1 := BitVec.ushiftRight_xor_distrib a b 1
  unfold crcShift
  rw [hs, BitVec.getLsbD_xor]
  cases a.getLsbD 0 <;> cases b.getLsbD 0 <;>
    simp only [Bool.xor_false, Bool.xor_true, Bool.not_true, Bool.not_false, if_true, Bool.false_eq_true, if_false]
  · rw [BitVec.xor_assoc]
  · rw [BitVec.xor_assoc, BitVec.xor_comm (b >>> 1), ← BitVec.xor_assoc]
  · have h (x y p : Word) : x ^^^ p ^^^ (y ^^^ p) = x ^^^ y ^^^ (p ^^^ p) := by ac_rfl
    rw [h, BitVec.xor_self, BitVec.xor_zero]

/-- So are several. -/
theorem crcShifts_xor (n : Nat) (a b : Word) : crcShifts n (a ^^^ b) = crcShifts n a ^^^ crcShifts n b := by
  induction n generalizing a b with
  | zero => rfl
  | succ n ih => simp only [crcShifts, crcShift_xor, ih]

/-- `crc_update` is linear over XOR in accumulator and byte together. -/
theorem crcUpdate_xor (c d : Word) (a b : Byte) : crcUpdate (c ^^^ d) (a ^^^ b) = crcUpdate c a ^^^ crcUpdate d b := by
  have hz : (a ^^^ b).zeroExtend 16 = a.zeroExtend 16 ^^^ b.zeroExtend 16 := by ext i; simp
  unfold crcUpdate
  rw [← crcShifts_xor, hz]
  congr 1
  ac_rfl

/-- Over whole sequences of one length. -/
theorem foldl_crcUpdate_xor (f g : List Byte) (h : f.length = g.length) (c d : Word) :
    (List.zipWith (· ^^^ ·) f g).foldl crcUpdate (c ^^^ d) = f.foldl crcUpdate c ^^^ g.foldl crcUpdate d := by
  induction f generalizing g c d with
  | nil => cases g <;> simp_all
  | cons x f ih =>
    cases g with
    | nil => simp at h
    | cons y g =>
      simp only [List.zipWith_cons_cons, List.foldl_cons, crcUpdate_xor]
      exact ih g (by simpa using h) _ _

/-- The accumulator is never lost: only 0 is shifted to 0 (the constant has bit 15 set). -/
theorem crcShift_eq_zero {c : Word} (h : crcShift c = 0) : c = 0 := by
  unfold crcShift at h
  split at h
  · have := congrArg (fun w : Word => w.getLsbD 15) h
    simp [Config.crcPoly] at this
  · rename_i h0
    apply BitVec.eq_of_getLsbD_eq
    intro i hi
    match i with
    | 0 => simpa using h0
    | i + 1 =>
      have := congrArg (fun w : Word => w.getLsbD i) h
      rw [Nat.add_comm]
      simpa using this

/-- Nor by several iterations. -/
theorem crcShifts_eq_zero {n : Nat} {c : Word} (h : crcShifts n c = 0) : c = 0 := by
  induction n generalizing c with
  | zero => exact h
  | succ n ih => exact crcShift_eq_zero (ih h)

/-- While the low bits are 0 the iterations only shift. -/
theorem crcShifts_eq_shift {n : Nat} {c : Word} (h : ∀ i, i < n → c.getLsbD i = false) : crcShifts n c = c >>> n := by
  induction n generalizing c with
  | zero => simp [crcShifts]
  | succ n ih =>
    simp only [crcShifts, crcShift, h 0 (by omega)]
    rw [if_neg (by simp), ih]
    · rw [← BitVec.shiftRight_add, Nat.add_comm]
    · intro i hi
      simpa [Nat.add_comm] using h (i + 1) (by omega)

/-- `crc16` of a sequence continued. -/
theorem crc16_append (f g : List Byte) : crc16 (f ++ g) = g.foldl crcUpdate (crc16 f) := by
  simp [crc16]

end Sys2Proof.Machine
end

