-- ==== Sys2Proof/Laws/Decode.lean ====
section
/-! SUPPORT. Decoding a frame loses nothing: the instruction read from the bytes encodes to these bytes (spec 30_encoding.md R62 to
R67), so what TRANSMIT sends is TXBUF and what VALIDATE judges is RXBUF[0..RXEXP]. -/

namespace Sys2Proof

/-- The values and the CRC of a function-code-3 response, put together again. -/
theorem wordBytes_splitValues : ∀ (f : List Byte) (ws : List Word) (c : Word),
    splitValues f = some (ws, c) → wordBytes ws ++ [lo8 c, hi8 c] = f
  | [], ws, c, h => by cases h
  | [_], ws, c, h => by cases h
  | [cl, ch], ws, c, h => by cases h; simp [wordBytes]
  | h1 :: l :: x :: xs, ws, c, h => by
    rw [splitValues] at h
    split at h
    · rename_i ws' c' hs
      cases h
      have := wordBytes_splitValues (x :: xs) ws' c hs
      simp [wordBytes, this]
    · cases h

theorem encode_of_decodeRequest {f : List Byte} {i : Instr} (h : decodeRequest f = .ok i) : encode i = .request f := by
  unfold decodeRequest at h
  split at h
  · split at h
    · cases h; rename_i hf; simp [encode, frame8, hf]
    · split at h
      · cases h; rename_i hf; simp [encode, frame8, hf]
      · cases h
  · cases h

theorem encode_of_decodeReadResponse {slave : Byte} {rest : List Byte} {i : Instr}
    (h : decodeReadResponse slave rest = .ok i) : encode i = .response (slave :: Config.fcRead :: rest) := by
  unfold decodeReadResponse at h
  split at h
  · cases h
  · split at h
    · rename_i hs
      split at h
      · cases h; simp [encode, readFrame, wordBytes_splitValues _ _ _ hs]
      · cases h
    · cases h

theorem encode_of_decodeWriteResponse {slave : Byte} {rest : List Byte} {i : Instr}
    (h : decodeWriteResponse slave rest = .ok i) : encode i = .response (slave :: Config.fcWrite :: rest) := by
  unfold decodeWriteResponse at h
  split at h
  · cases h; simp [encode, frame8]
  · cases h

theorem decodeException_ok {mk : Byte → Word → Instr} {rest : List Byte} {i : Instr} (h : decodeException mk rest = .ok i) :
    ∃ code crc, i = mk code crc ∧ rest = [code, lo8 crc, hi8 crc] := by
  unfold decodeException at h
  split at h
  · cases h; exact ⟨_, _, rfl, by simp⟩
  · cases h

theorem encode_of_decodeResponse {fc : Byte} {f : List Byte} {i : Instr} (h : decodeResponse fc f = .ok i) :
    encode i = .response f := by
  unfold decodeResponse at h
  split at h
  · cases h
  · cases h
  · split at h
    · rename_i hc; rw [hc.2, hc.1]; exact encode_of_decodeReadResponse h
    · split at h
      · rename_i hc; rw [hc.2, hc.1]; exact encode_of_decodeWriteResponse h
      · split at h
        · rename_i hc; obtain ⟨code, crc, rfl, rfl⟩ := decodeException_ok h; rw [hc.2, hc.1]; rfl
        · split at h
          · rename_i hc; obtain ⟨code, crc, rfl, rfl⟩ := decodeException_ok h; rw [hc.2, hc.1]; rfl
          · split at h <;> cases h
            rfl

/-- A command word decodes to a command. -/
theorem encode_decodeCommand_isCommand (w : BitVec 36) : ∃ v, encode (decodeCommand w) = .command v := by
  unfold decodeCommand
  repeat' split
  all_goals exact ⟨_, rfl⟩

end Sys2Proof
end

