-- ==== Sys2Proof/Laws/State.lean ====
section
/-! SUPPORT. What each named update of the state does to each field: one lemma per field per update, true by `rfl`, for `simp`. -/

namespace Sys2Proof.Machine

variable (s : State)

/-! ### emit -/

@[simp] theorem State.emit_cfg (e : WireEvent) : (s.emit e).cfg = s.cfg := rfl
@[simp] theorem State.emit_init (e : WireEvent) : (s.emit e).init = s.init := rfl
@[simp] theorem State.emit_state (e : WireEvent) : (s.emit e).state = s.state := rfl
@[simp] theorem State.emit_dir (e : WireEvent) : (s.emit e).dir = s.dir := rfl
@[simp] theorem State.emit_req (e : WireEvent) : (s.emit e).req = s.req := rfl
@[simp] theorem State.emit_txbuf (e : WireEvent) : (s.emit e).txbuf = s.txbuf := rfl
@[simp] theorem State.emit_rxbuf (e : WireEvent) : (s.emit e).rxbuf = s.rxbuf := rfl
@[simp] theorem State.emit_rxcnt (e : WireEvent) : (s.emit e).rxcnt = s.rxcnt := rfl
@[simp] theorem State.emit_rxexp (e : WireEvent) : (s.emit e).rxexp = s.rxexp := rfl
@[simp] theorem State.emit_crc (e : WireEvent) : (s.emit e).crc = s.crc := rfl
@[simp] theorem State.emit_window (e : WireEvent) : (s.emit e).window = s.window := rfl
@[simp] theorem State.emit_txErr (e : WireEvent) : (s.emit e).txErr = s.txErr := rfl
@[simp] theorem State.emit_result (e : WireEvent) : (s.emit e).result = s.result := rfl
@[simp] theorem State.emit_rdata (e : WireEvent) : (s.emit e).rdata = s.rdata := rfl
@[simp] theorem State.emit_params (e : WireEvent) : (s.emit e).params = s.params := rfl
@[simp] theorem State.emit_host (e : WireEvent) : (s.emit e).host = s.host := rfl
@[simp] theorem State.emit_env (e : WireEvent) : (s.emit e).env = s.env := rfl
@[simp] theorem State.emit_trace (e : WireEvent) : (s.emit e).trace = s.trace ++ [e] := rfl
@[simp] theorem State.emit_replies (e : WireEvent) : (s.emit e).replies = s.replies := rfl
@[simp] theorem State.emit_freeCount (e : WireEvent) : (s.emit e).freeCount = s.freeCount := rfl

/-! ### emitAll -/

@[simp] theorem State.emitAll_cfg (es : List WireEvent) : (s.emitAll es).cfg = s.cfg := rfl
@[simp] theorem State.emitAll_init (es : List WireEvent) : (s.emitAll es).init = s.init := rfl
@[simp] theorem State.emitAll_state (es : List WireEvent) : (s.emitAll es).state = s.state := rfl
@[simp] theorem State.emitAll_dir (es : List WireEvent) : (s.emitAll es).dir = s.dir := rfl
@[simp] theorem State.emitAll_req (es : List WireEvent) : (s.emitAll es).req = s.req := rfl
@[simp] theorem State.emitAll_txbuf (es : List WireEvent) : (s.emitAll es).txbuf = s.txbuf := rfl
@[simp] theorem State.emitAll_rxbuf (es : List WireEvent) : (s.emitAll es).rxbuf = s.rxbuf := rfl
@[simp] theorem State.emitAll_rxcnt (es : List WireEvent) : (s.emitAll es).rxcnt = s.rxcnt := rfl
@[simp] theorem State.emitAll_rxexp (es : List WireEvent) : (s.emitAll es).rxexp = s.rxexp := rfl
@[simp] theorem State.emitAll_crc (es : List WireEvent) : (s.emitAll es).crc = s.crc := rfl
@[simp] theorem State.emitAll_window (es : List WireEvent) : (s.emitAll es).window = s.window := rfl
@[simp] theorem State.emitAll_txErr (es : List WireEvent) : (s.emitAll es).txErr = s.txErr := rfl
@[simp] theorem State.emitAll_result (es : List WireEvent) : (s.emitAll es).result = s.result := rfl
@[simp] theorem State.emitAll_rdata (es : List WireEvent) : (s.emitAll es).rdata = s.rdata := rfl
@[simp] theorem State.emitAll_params (es : List WireEvent) : (s.emitAll es).params = s.params := rfl
@[simp] theorem State.emitAll_host (es : List WireEvent) : (s.emitAll es).host = s.host := rfl
@[simp] theorem State.emitAll_env (es : List WireEvent) : (s.emitAll es).env = s.env := rfl
@[simp] theorem State.emitAll_trace (es : List WireEvent) : (s.emitAll es).trace = s.trace ++ es := rfl
@[simp] theorem State.emitAll_replies (es : List WireEvent) : (s.emitAll es).replies = s.replies := rfl
@[simp] theorem State.emitAll_freeCount (es : List WireEvent) : (s.emitAll es).freeCount = s.freeCount := rfl

/-! ### answer -/

@[simp] theorem State.answer_cfg (r : Reply) : (s.answer r).cfg = s.cfg := rfl
@[simp] theorem State.answer_init (r : Reply) : (s.answer r).init = s.init := rfl
@[simp] theorem State.answer_state (r : Reply) : (s.answer r).state = s.state := rfl
@[simp] theorem State.answer_dir (r : Reply) : (s.answer r).dir = s.dir := rfl
@[simp] theorem State.answer_req (r : Reply) : (s.answer r).req = s.req := rfl
@[simp] theorem State.answer_txbuf (r : Reply) : (s.answer r).txbuf = s.txbuf := rfl
@[simp] theorem State.answer_rxbuf (r : Reply) : (s.answer r).rxbuf = s.rxbuf := rfl
@[simp] theorem State.answer_rxcnt (r : Reply) : (s.answer r).rxcnt = s.rxcnt := rfl
@[simp] theorem State.answer_rxexp (r : Reply) : (s.answer r).rxexp = s.rxexp := rfl
@[simp] theorem State.answer_crc (r : Reply) : (s.answer r).crc = s.crc := rfl
@[simp] theorem State.answer_window (r : Reply) : (s.answer r).window = s.window := rfl
@[simp] theorem State.answer_txErr (r : Reply) : (s.answer r).txErr = s.txErr := rfl
@[simp] theorem State.answer_result (r : Reply) : (s.answer r).result = s.result := rfl
@[simp] theorem State.answer_rdata (r : Reply) : (s.answer r).rdata = s.rdata := rfl
@[simp] theorem State.answer_params (r : Reply) : (s.answer r).params = s.params := rfl
@[simp] theorem State.answer_host (r : Reply) : (s.answer r).host = s.host := rfl
@[simp] theorem State.answer_env (r : Reply) : (s.answer r).env = s.env := rfl
@[simp] theorem State.answer_trace (r : Reply) : (s.answer r).trace = s.trace := rfl
@[simp] theorem State.answer_replies (r : Reply) : (s.answer r).replies = s.replies ++ [r] := rfl
@[simp] theorem State.answer_freeCount (r : Reply) : (s.answer r).freeCount = s.freeCount := rfl

/-! ### setDirection -/

@[simp] theorem State.setDirection_cfg (m : Mode) : (s.setDirection m).cfg = s.cfg := rfl
@[simp] theorem State.setDirection_init (m : Mode) : (s.setDirection m).init = s.init := rfl
@[simp] theorem State.setDirection_state (m : Mode) : (s.setDirection m).state = s.state := rfl
@[simp] theorem State.setDirection_dir (m : Mode) : (s.setDirection m).dir = m.level := rfl
@[simp] theorem State.setDirection_req (m : Mode) : (s.setDirection m).req = s.req := rfl
@[simp] theorem State.setDirection_txbuf (m : Mode) : (s.setDirection m).txbuf = s.txbuf := rfl
@[simp] theorem State.setDirection_rxbuf (m : Mode) : (s.setDirection m).rxbuf = s.rxbuf := rfl
@[simp] theorem State.setDirection_rxcnt (m : Mode) : (s.setDirection m).rxcnt = s.rxcnt := rfl
@[simp] theorem State.setDirection_rxexp (m : Mode) : (s.setDirection m).rxexp = s.rxexp := rfl
@[simp] theorem State.setDirection_crc (m : Mode) : (s.setDirection m).crc = s.crc := rfl
@[simp] theorem State.setDirection_window (m : Mode) : (s.setDirection m).window = s.window := rfl
@[simp] theorem State.setDirection_txErr (m : Mode) : (s.setDirection m).txErr = s.txErr := rfl
@[simp] theorem State.setDirection_result (m : Mode) : (s.setDirection m).result = s.result := rfl
@[simp] theorem State.setDirection_rdata (m : Mode) : (s.setDirection m).rdata = s.rdata := rfl
@[simp] theorem State.setDirection_params (m : Mode) : (s.setDirection m).params = s.params := rfl
@[simp] theorem State.setDirection_host (m : Mode) : (s.setDirection m).host = s.host := rfl
@[simp] theorem State.setDirection_env (m : Mode) : (s.setDirection m).env = s.env := rfl
@[simp] theorem State.setDirection_trace (m : Mode) : (s.setDirection m).trace = s.trace ++ [.dir m.level] := rfl
@[simp] theorem State.setDirection_replies (m : Mode) : (s.setDirection m).replies = s.replies := rfl
@[simp] theorem State.setDirection_freeCount (m : Mode) : (s.setDirection m).freeCount = s.freeCount := rfl

/-! ### refuse -/

@[simp] theorem State.refuse_cfg : (s.refuse).cfg = s.cfg := rfl
@[simp] theorem State.refuse_init : (s.refuse).init = s.init := rfl
@[simp] theorem State.refuse_state : (s.refuse).state = s.state := rfl
@[simp] theorem State.refuse_dir : (s.refuse).dir = s.dir := rfl
@[simp] theorem State.refuse_req : (s.refuse).req = s.req := rfl
@[simp] theorem State.refuse_txbuf : (s.refuse).txbuf = s.txbuf := rfl
@[simp] theorem State.refuse_rxbuf : (s.refuse).rxbuf = s.rxbuf := rfl
@[simp] theorem State.refuse_rxcnt : (s.refuse).rxcnt = s.rxcnt := rfl
@[simp] theorem State.refuse_rxexp : (s.refuse).rxexp = s.rxexp := rfl
@[simp] theorem State.refuse_crc : (s.refuse).crc = s.crc := rfl
@[simp] theorem State.refuse_window : (s.refuse).window = s.window := rfl
@[simp] theorem State.refuse_txErr : (s.refuse).txErr = s.txErr := rfl
@[simp] theorem State.refuse_result : (s.refuse).result = s.result := rfl
@[simp] theorem State.refuse_rdata : (s.refuse).rdata = s.rdata := rfl
@[simp] theorem State.refuse_params : (s.refuse).params = s.params := rfl
@[simp] theorem State.refuse_host : (s.refuse).host = s.host := rfl
@[simp] theorem State.refuse_env : (s.refuse).env = s.env := rfl
@[simp] theorem State.refuse_trace : (s.refuse).trace = s.trace := rfl
@[simp] theorem State.refuse_replies : (s.refuse).replies = s.replies ++ [.refused] := rfl
@[simp] theorem State.refuse_freeCount : (s.refuse).freeCount = s.freeCount := rfl

/-! ### accept -/

@[simp] theorem State.accept_cfg (op : BitVec 4) (fc : Byte) (a b : Word) : (s.accept op fc a b).cfg = s.cfg := rfl
@[simp] theorem State.accept_init (op : BitVec 4) (fc : Byte) (a b : Word) : (s.accept op fc a b).init = s.init := rfl
@[simp] theorem State.accept_state (op : BitVec 4) (fc : Byte) (a b : Word) :
    (s.accept op fc a b).state = .buildFrame := rfl
@[simp] theorem State.accept_dir (op : BitVec 4) (fc : Byte) (a b : Word) : (s.accept op fc a b).dir = s.dir := rfl
@[simp] theorem State.accept_req (op : BitVec 4) (fc : Byte) (a b : Word) :
    (s.accept op fc a b).req = { op := op, fc := fc, a := a, b := b } := rfl
@[simp] theorem State.accept_txbuf (op : BitVec 4) (fc : Byte) (a b : Word) :
    (s.accept op fc a b).txbuf = s.txbuf := rfl
@[simp] theorem State.accept_rxbuf (op : BitVec 4) (fc : Byte) (a b : Word) :
    (s.accept op fc a b).rxbuf = s.rxbuf := rfl
@[simp] theorem State.accept_rxcnt (op : BitVec 4) (fc : Byte) (a b : Word) :
    (s.accept op fc a b).rxcnt = s.rxcnt := rfl
@[simp] theorem State.accept_rxexp (op : BitVec 4) (fc : Byte) (a b : Word) :
    (s.accept op fc a b).rxexp = s.rxexp := rfl
@[simp] theorem State.accept_crc (op : BitVec 4) (fc : Byte) (a b : Word) : (s.accept op fc a b).crc = s.crc := rfl
@[simp] theorem State.accept_window (op : BitVec 4) (fc : Byte) (a b : Word) :
    (s.accept op fc a b).window = s.window := rfl
@[simp] theorem State.accept_txErr (op : BitVec 4) (fc : Byte) (a b : Word) :
    (s.accept op fc a b).txErr = false := rfl
@[simp] theorem State.accept_result (op : BitVec 4) (fc : Byte) (a b : Word) :
    (s.accept op fc a b).result = ResultReg.cleared := rfl
@[simp] theorem State.accept_rdata (op : BitVec 4) (fc : Byte) (a b : Word) :
    (s.accept op fc a b).rdata = s.rdata := rfl
@[simp] theorem State.accept_params (op : BitVec 4) (fc : Byte) (a b : Word) :
    (s.accept op fc a b).params = s.params := rfl
@[simp] theorem State.accept_host (op : BitVec 4) (fc : Byte) (a b : Word) : (s.accept op fc a b).host = s.host := rfl
@[simp] theorem State.accept_env (op : BitVec 4) (fc : Byte) (a b : Word) : (s.accept op fc a b).env = s.env := rfl
@[simp] theorem State.accept_trace (op : BitVec 4) (fc : Byte) (a b : Word) :
    (s.accept op fc a b).trace = s.trace := rfl
@[simp] theorem State.accept_replies (op : BitVec 4) (fc : Byte) (a b : Word) :
    (s.accept op fc a b).replies = s.replies ++ [.accepted] := rfl
@[simp] theorem State.accept_freeCount (op : BitVec 4) (fc : Byte) (a b : Word) :
    (s.accept op fc a b).freeCount = s.freeCount := rfl

/-! ### initialized -/

@[simp] theorem State.initialized_cfg : (s.initialized).cfg = s.cfg := rfl
@[simp] theorem State.initialized_init : (s.initialized).init = true := rfl
@[simp] theorem State.initialized_state : (s.initialized).state = s.state := rfl
@[simp] theorem State.initialized_dir : (s.initialized).dir = .low := rfl
@[simp] theorem State.initialized_req : (s.initialized).req = { s.req with op := 0 } := rfl
@[simp] theorem State.initialized_txbuf : (s.initialized).txbuf = s.txbuf := rfl
@[simp] theorem State.initialized_rxbuf : (s.initialized).rxbuf = s.rxbuf := rfl
@[simp] theorem State.initialized_rxcnt : (s.initialized).rxcnt = s.rxcnt := rfl
@[simp] theorem State.initialized_rxexp : (s.initialized).rxexp = s.rxexp := rfl
@[simp] theorem State.initialized_crc : (s.initialized).crc = s.crc := rfl
@[simp] theorem State.initialized_window : (s.initialized).window = s.window := rfl
@[simp] theorem State.initialized_txErr : (s.initialized).txErr = s.txErr := rfl
@[simp] theorem State.initialized_result :
    (s.initialized).result = { done := true, kind := .success, rop := 0, excCode := 0, rcount := 0 } := rfl
@[simp] theorem State.initialized_rdata : (s.initialized).rdata = s.rdata := rfl
@[simp] theorem State.initialized_params : (s.initialized).params = s.params := rfl
@[simp] theorem State.initialized_host : (s.initialized).host = s.host := rfl
@[simp] theorem State.initialized_env : (s.initialized).env = s.env := rfl
@[simp] theorem State.initialized_trace : (s.initialized).trace = s.trace ++ [.dir .low] := rfl
@[simp] theorem State.initialized_replies : (s.initialized).replies = s.replies ++ [.accepted] := rfl
@[simp] theorem State.initialized_freeCount : (s.initialized).freeCount = s.freeCount := rfl

/-! ### enterTransmit -/

@[simp] theorem State.enterTransmit_cfg : (s.enterTransmit).cfg = s.cfg := rfl
@[simp] theorem State.enterTransmit_init : (s.enterTransmit).init = s.init := rfl
@[simp] theorem State.enterTransmit_state : (s.enterTransmit).state = .transmit := rfl
@[simp] theorem State.enterTransmit_dir : (s.enterTransmit).dir = .high := rfl
@[simp] theorem State.enterTransmit_req : (s.enterTransmit).req = s.req := rfl
@[simp] theorem State.enterTransmit_txbuf : (s.enterTransmit).txbuf = s.txbuf := rfl
@[simp] theorem State.enterTransmit_rxbuf : (s.enterTransmit).rxbuf = s.rxbuf := rfl
@[simp] theorem State.enterTransmit_rxcnt : (s.enterTransmit).rxcnt = s.rxcnt := rfl
@[simp] theorem State.enterTransmit_rxexp : (s.enterTransmit).rxexp = s.rxexp := rfl
@[simp] theorem State.enterTransmit_crc : (s.enterTransmit).crc = s.crc := rfl
@[simp] theorem State.enterTransmit_window : (s.enterTransmit).window = s.window := rfl
@[simp] theorem State.enterTransmit_txErr : (s.enterTransmit).txErr = s.txErr := rfl
@[simp] theorem State.enterTransmit_result : (s.enterTransmit).result = s.result := rfl
@[simp] theorem State.enterTransmit_rdata : (s.enterTransmit).rdata = s.rdata := rfl
@[simp] theorem State.enterTransmit_params : (s.enterTransmit).params = s.params := rfl
@[simp] theorem State.enterTransmit_host : (s.enterTransmit).host = s.host := rfl
@[simp] theorem State.enterTransmit_env : (s.enterTransmit).env = s.env := rfl
@[simp] theorem State.enterTransmit_trace : (s.enterTransmit).trace = s.trace ++ [.dir .high] := rfl
@[simp] theorem State.enterTransmit_replies : (s.enterTransmit).replies = s.replies := rfl
@[simp] theorem State.enterTransmit_freeCount : (s.enterTransmit).freeCount = s.freeCount := rfl

/-! ### enterReceive -/

@[simp] theorem State.enterReceive_cfg : (s.enterReceive).cfg = s.cfg := rfl
@[simp] theorem State.enterReceive_init : (s.enterReceive).init = s.init := rfl
@[simp] theorem State.enterReceive_state : (s.enterReceive).state = .receive := rfl
@[simp] theorem State.enterReceive_dir : (s.enterReceive).dir = .low := rfl
@[simp] theorem State.enterReceive_req : (s.enterReceive).req = s.req := rfl
@[simp] theorem State.enterReceive_txbuf : (s.enterReceive).txbuf = s.txbuf := rfl
@[simp] theorem State.enterReceive_rxbuf : (s.enterReceive).rxbuf = s.rxbuf := rfl
@[simp] theorem State.enterReceive_rxcnt : (s.enterReceive).rxcnt = s.rxcnt := rfl
@[simp] theorem State.enterReceive_rxexp : (s.enterReceive).rxexp = s.rxexp := rfl
@[simp] theorem State.enterReceive_crc : (s.enterReceive).crc = s.crc := rfl
@[simp] theorem State.enterReceive_window : (s.enterReceive).window = s.window := rfl
@[simp] theorem State.enterReceive_txErr : (s.enterReceive).txErr = s.txErr := rfl
@[simp] theorem State.enterReceive_result : (s.enterReceive).result = s.result := rfl
@[simp] theorem State.enterReceive_rdata : (s.enterReceive).rdata = s.rdata := rfl
@[simp] theorem State.enterReceive_params : (s.enterReceive).params = s.params := rfl
@[simp] theorem State.enterReceive_host : (s.enterReceive).host = s.host := rfl
@[simp] theorem State.enterReceive_env : (s.enterReceive).env = s.env := rfl
@[simp] theorem State.enterReceive_trace : (s.enterReceive).trace = s.trace ++ [.dir .low] := rfl
@[simp] theorem State.enterReceive_replies : (s.enterReceive).replies = s.replies := rfl
@[simp] theorem State.enterReceive_freeCount : (s.enterReceive).freeCount = s.freeCount := rfl

/-! ### enterAwait -/

@[simp] theorem State.enterAwait_cfg : (s.enterAwait).cfg = s.cfg := rfl
@[simp] theorem State.enterAwait_init : (s.enterAwait).init = s.init := rfl
@[simp] theorem State.enterAwait_state : (s.enterAwait).state = .awaitResponse := rfl
@[simp] theorem State.enterAwait_dir : (s.enterAwait).dir = s.dir := rfl
@[simp] theorem State.enterAwait_req : (s.enterAwait).req = s.req := rfl
@[simp] theorem State.enterAwait_txbuf : (s.enterAwait).txbuf = s.txbuf := rfl
@[simp] theorem State.enterAwait_rxbuf : (s.enterAwait).rxbuf = s.rxbuf := rfl
@[simp] theorem State.enterAwait_rxcnt : (s.enterAwait).rxcnt = 0 := rfl
@[simp] theorem State.enterAwait_rxexp : (s.enterAwait).rxexp = s.rxexp := rfl
@[simp] theorem State.enterAwait_crc : (s.enterAwait).crc = s.crc := rfl
@[simp] theorem State.enterAwait_window : (s.enterAwait).window = true := rfl
@[simp] theorem State.enterAwait_txErr : (s.enterAwait).txErr = s.txErr := rfl
@[simp] theorem State.enterAwait_result : (s.enterAwait).result = s.result := rfl
@[simp] theorem State.enterAwait_rdata : (s.enterAwait).rdata = s.rdata := rfl
@[simp] theorem State.enterAwait_params : (s.enterAwait).params = s.params := rfl
@[simp] theorem State.enterAwait_host : (s.enterAwait).host = s.host := rfl
@[simp] theorem State.enterAwait_env : (s.enterAwait).env = s.env := rfl
@[simp] theorem State.enterAwait_trace : (s.enterAwait).trace = s.trace := rfl
@[simp] theorem State.enterAwait_replies : (s.enterAwait).replies = s.replies := rfl
@[simp] theorem State.enterAwait_freeCount : (s.enterAwait).freeCount = s.freeCount := rfl

/-! ### raiseFailure -/

@[simp] theorem State.raiseFailure_cfg (k : ErrorKind) : (s.raiseFailure k).cfg = s.cfg := rfl
@[simp] theorem State.raiseFailure_init (k : ErrorKind) : (s.raiseFailure k).init = s.init := rfl
@[simp] theorem State.raiseFailure_state (k : ErrorKind) : (s.raiseFailure k).state = .errorReported := rfl
@[simp] theorem State.raiseFailure_dir (k : ErrorKind) : (s.raiseFailure k).dir = s.dir := rfl
@[simp] theorem State.raiseFailure_req (k : ErrorKind) : (s.raiseFailure k).req = s.req := rfl
@[simp] theorem State.raiseFailure_txbuf (k : ErrorKind) : (s.raiseFailure k).txbuf = s.txbuf := rfl
@[simp] theorem State.raiseFailure_rxbuf (k : ErrorKind) : (s.raiseFailure k).rxbuf = s.rxbuf := rfl
@[simp] theorem State.raiseFailure_rxcnt (k : ErrorKind) : (s.raiseFailure k).rxcnt = s.rxcnt := rfl
@[simp] theorem State.raiseFailure_rxexp (k : ErrorKind) : (s.raiseFailure k).rxexp = s.rxexp := rfl
@[simp] theorem State.raiseFailure_crc (k : ErrorKind) : (s.raiseFailure k).crc = s.crc := rfl
@[simp] theorem State.raiseFailure_window (k : ErrorKind) : (s.raiseFailure k).window = s.window := rfl
@[simp] theorem State.raiseFailure_txErr (k : ErrorKind) : (s.raiseFailure k).txErr = s.txErr := rfl
@[simp] theorem State.raiseFailure_result (k : ErrorKind) :
    (s.raiseFailure k).result = { done := true, kind := k.kind, rop := s.req.op, excCode := k.excCode, rcount := 0 } := rfl
@[simp] theorem State.raiseFailure_rdata (k : ErrorKind) : (s.raiseFailure k).rdata = s.rdata := rfl
@[simp] theorem State.raiseFailure_params (k : ErrorKind) : (s.raiseFailure k).params = s.params := rfl
@[simp] theorem State.raiseFailure_host (k : ErrorKind) : (s.raiseFailure k).host = s.host := rfl
@[simp] theorem State.raiseFailure_env (k : ErrorKind) : (s.raiseFailure k).env = s.env := rfl
@[simp] theorem State.raiseFailure_trace (k : ErrorKind) : (s.raiseFailure k).trace = s.trace := rfl
@[simp] theorem State.raiseFailure_replies (k : ErrorKind) : (s.raiseFailure k).replies = s.replies := rfl
@[simp] theorem State.raiseFailure_freeCount (k : ErrorKind) : (s.raiseFailure k).freeCount = s.freeCount := rfl

/-! ### returnToIdle -/

@[simp] theorem State.returnToIdle_cfg : (s.returnToIdle).cfg = s.cfg := rfl
@[simp] theorem State.returnToIdle_init : (s.returnToIdle).init = s.init := rfl
@[simp] theorem State.returnToIdle_state : (s.returnToIdle).state = .idle := rfl
@[simp] theorem State.returnToIdle_dir : (s.returnToIdle).dir = s.dir := rfl
@[simp] theorem State.returnToIdle_req : (s.returnToIdle).req = s.req := rfl
@[simp] theorem State.returnToIdle_txbuf : (s.returnToIdle).txbuf = s.txbuf := rfl
@[simp] theorem State.returnToIdle_rxbuf : (s.returnToIdle).rxbuf = s.rxbuf := rfl
@[simp] theorem State.returnToIdle_rxcnt : (s.returnToIdle).rxcnt = s.rxcnt := rfl
@[simp] theorem State.returnToIdle_rxexp : (s.returnToIdle).rxexp = s.rxexp := rfl
@[simp] theorem State.returnToIdle_crc : (s.returnToIdle).crc = s.crc := rfl
@[simp] theorem State.returnToIdle_window : (s.returnToIdle).window = s.window := rfl
@[simp] theorem State.returnToIdle_txErr : (s.returnToIdle).txErr = s.txErr := rfl
@[simp] theorem State.returnToIdle_result : (s.returnToIdle).result = s.result := rfl
@[simp] theorem State.returnToIdle_rdata : (s.returnToIdle).rdata = s.rdata := rfl
@[simp] theorem State.returnToIdle_params : (s.returnToIdle).params = s.params := rfl
@[simp] theorem State.returnToIdle_host : (s.returnToIdle).host = s.host := rfl
@[simp] theorem State.returnToIdle_env : (s.returnToIdle).env = s.env := rfl
@[simp] theorem State.returnToIdle_trace : (s.returnToIdle).trace = s.trace := rfl
@[simp] theorem State.returnToIdle_replies : (s.returnToIdle).replies = s.replies := rfl
@[simp] theorem State.returnToIdle_freeCount : (s.returnToIdle).freeCount = s.freeCount := rfl

/-! ### takeFailure -/

@[simp] theorem State.takeFailure_cfg (k : ErrorKind) : (s.takeFailure k).cfg = s.cfg := rfl
@[simp] theorem State.takeFailure_init (k : ErrorKind) : (s.takeFailure k).init = s.init := rfl
@[simp] theorem State.takeFailure_state (k : ErrorKind) : (s.takeFailure k).state = .idle := rfl
@[simp] theorem State.takeFailure_dir (k : ErrorKind) : (s.takeFailure k).dir = s.dir := rfl
@[simp] theorem State.takeFailure_req (k : ErrorKind) : (s.takeFailure k).req = s.req := rfl
@[simp] theorem State.takeFailure_txbuf (k : ErrorKind) : (s.takeFailure k).txbuf = s.txbuf := rfl
@[simp] theorem State.takeFailure_rxbuf (k : ErrorKind) : (s.takeFailure k).rxbuf = s.rxbuf := rfl
@[simp] theorem State.takeFailure_rxcnt (k : ErrorKind) : (s.takeFailure k).rxcnt = s.rxcnt := rfl
@[simp] theorem State.takeFailure_rxexp (k : ErrorKind) : (s.takeFailure k).rxexp = s.rxexp := rfl
@[simp] theorem State.takeFailure_crc (k : ErrorKind) : (s.takeFailure k).crc = s.crc := rfl
@[simp] theorem State.takeFailure_window (k : ErrorKind) : (s.takeFailure k).window = s.window := rfl
@[simp] theorem State.takeFailure_txErr (k : ErrorKind) : (s.takeFailure k).txErr = s.txErr := rfl
@[simp] theorem State.takeFailure_result (k : ErrorKind) : (s.takeFailure k).result =
    { done := true, kind := k.kind, rop := s.req.op, excCode := k.excCode, rcount := 0 } := rfl
@[simp] theorem State.takeFailure_rdata (k : ErrorKind) : (s.takeFailure k).rdata = s.rdata := rfl
@[simp] theorem State.takeFailure_params (k : ErrorKind) : (s.takeFailure k).params = s.params := rfl
@[simp] theorem State.takeFailure_host (k : ErrorKind) : (s.takeFailure k).host = s.host := rfl
@[simp] theorem State.takeFailure_env (k : ErrorKind) : (s.takeFailure k).env = s.env := rfl
@[simp] theorem State.takeFailure_trace (k : ErrorKind) : (s.takeFailure k).trace = s.trace := rfl
@[simp] theorem State.takeFailure_replies (k : ErrorKind) : (s.takeFailure k).replies = s.replies := rfl
@[simp] theorem State.takeFailure_freeCount (k : ErrorKind) : (s.takeFailure k).freeCount = s.freeCount := rfl

/-! ### dropWrite -/

@[simp] theorem State.dropWrite_cfg : (s.dropWrite).cfg = s.cfg := rfl
@[simp] theorem State.dropWrite_init : (s.dropWrite).init = s.init := rfl
@[simp] theorem State.dropWrite_state : (s.dropWrite).state = s.state := rfl
@[simp] theorem State.dropWrite_dir : (s.dropWrite).dir = s.dir := rfl
@[simp] theorem State.dropWrite_req : (s.dropWrite).req = s.req := rfl
@[simp] theorem State.dropWrite_txbuf : (s.dropWrite).txbuf = s.txbuf := rfl
@[simp] theorem State.dropWrite_rxbuf : (s.dropWrite).rxbuf = s.rxbuf := rfl
@[simp] theorem State.dropWrite_rxcnt : (s.dropWrite).rxcnt = s.rxcnt := rfl
@[simp] theorem State.dropWrite_rxexp : (s.dropWrite).rxexp = s.rxexp := rfl
@[simp] theorem State.dropWrite_crc : (s.dropWrite).crc = s.crc := rfl
@[simp] theorem State.dropWrite_window : (s.dropWrite).window = s.window := rfl
@[simp] theorem State.dropWrite_txErr : (s.dropWrite).txErr = s.txErr := rfl
@[simp] theorem State.dropWrite_result : (s.dropWrite).result = s.result := rfl
@[simp] theorem State.dropWrite_rdata : (s.dropWrite).rdata = s.rdata := rfl
@[simp] theorem State.dropWrite_params : (s.dropWrite).params = s.params := rfl
@[simp] theorem State.dropWrite_host : (s.dropWrite).host = s.host := rfl
@[simp] theorem State.dropWrite_env : (s.dropWrite).env = { s.env with writes := s.env.writes.tail } := rfl
@[simp] theorem State.dropWrite_trace : (s.dropWrite).trace = s.trace := rfl
@[simp] theorem State.dropWrite_replies : (s.dropWrite).replies = s.replies := rfl
@[simp] theorem State.dropWrite_freeCount : (s.dropWrite).freeCount =
    if s.env.writes.isEmpty then s.freeCount + 1 else s.freeCount := rfl

/-! ### succeed -/

@[simp] theorem State.succeed_cfg (p : List Word) : (s.succeed p).cfg = s.cfg := rfl
@[simp] theorem State.succeed_init (p : List Word) : (s.succeed p).init = s.init := rfl
@[simp] theorem State.succeed_state (p : List Word) : (s.succeed p).state = .idle := rfl
@[simp] theorem State.succeed_dir (p : List Word) : (s.succeed p).dir = s.dir := rfl
@[simp] theorem State.succeed_req (p : List Word) : (s.succeed p).req = s.req := rfl
@[simp] theorem State.succeed_txbuf (p : List Word) : (s.succeed p).txbuf = s.txbuf := rfl
@[simp] theorem State.succeed_rxbuf (p : List Word) : (s.succeed p).rxbuf = s.rxbuf := rfl
@[simp] theorem State.succeed_rxcnt (p : List Word) : (s.succeed p).rxcnt = s.rxcnt := rfl
@[simp] theorem State.succeed_rxexp (p : List Word) : (s.succeed p).rxexp = s.rxexp := rfl
@[simp] theorem State.succeed_crc (p : List Word) : (s.succeed p).crc = s.crc := rfl
@[simp] theorem State.succeed_window (p : List Word) : (s.succeed p).window = s.window := rfl
@[simp] theorem State.succeed_txErr (p : List Word) : (s.succeed p).txErr = s.txErr := rfl
@[simp] theorem State.succeed_result (p : List Word) :
    (s.succeed p).result = { done := true, kind := .success, rop := s.req.op, excCode := 0, rcount := BitVec.ofNat 8 p.length } := rfl
@[simp] theorem State.succeed_rdata (p : List Word) : (s.succeed p).rdata = storeFrom s.rdata 0 p := rfl
@[simp] theorem State.succeed_params (p : List Word) : (s.succeed p).params = s.params := rfl
@[simp] theorem State.succeed_host (p : List Word) : (s.succeed p).host = s.host := rfl
@[simp] theorem State.succeed_env (p : List Word) : (s.succeed p).env = s.env := rfl
@[simp] theorem State.succeed_trace (p : List Word) : (s.succeed p).trace = s.trace := rfl
@[simp] theorem State.succeed_replies (p : List Word) : (s.succeed p).replies = s.replies := rfl
@[simp] theorem State.succeed_freeCount (p : List Word) : (s.succeed p).freeCount = s.freeCount := rfl

/-! ### crcLoad -/

@[simp] theorem State.crcLoad_cfg : (s.crcLoad).cfg = s.cfg := rfl
@[simp] theorem State.crcLoad_init : (s.crcLoad).init = s.init := rfl
@[simp] theorem State.crcLoad_state : (s.crcLoad).state = s.state := rfl
@[simp] theorem State.crcLoad_dir : (s.crcLoad).dir = s.dir := rfl
@[simp] theorem State.crcLoad_req : (s.crcLoad).req = s.req := rfl
@[simp] theorem State.crcLoad_txbuf : (s.crcLoad).txbuf = s.txbuf := rfl
@[simp] theorem State.crcLoad_rxbuf : (s.crcLoad).rxbuf = s.rxbuf := rfl
@[simp] theorem State.crcLoad_rxcnt : (s.crcLoad).rxcnt = s.rxcnt := rfl
@[simp] theorem State.crcLoad_rxexp : (s.crcLoad).rxexp = s.rxexp := rfl
@[simp] theorem State.crcLoad_crc : (s.crcLoad).crc = Config.crcInit := rfl
@[simp] theorem State.crcLoad_window : (s.crcLoad).window = s.window := rfl
@[simp] theorem State.crcLoad_txErr : (s.crcLoad).txErr = s.txErr := rfl
@[simp] theorem State.crcLoad_result : (s.crcLoad).result = s.result := rfl
@[simp] theorem State.crcLoad_rdata : (s.crcLoad).rdata = s.rdata := rfl
@[simp] theorem State.crcLoad_params : (s.crcLoad).params = s.params := rfl
@[simp] theorem State.crcLoad_host : (s.crcLoad).host = s.host := rfl
@[simp] theorem State.crcLoad_env : (s.crcLoad).env = s.env := rfl
@[simp] theorem State.crcLoad_trace : (s.crcLoad).trace = s.trace := rfl
@[simp] theorem State.crcLoad_replies : (s.crcLoad).replies = s.replies := rfl
@[simp] theorem State.crcLoad_freeCount : (s.crcLoad).freeCount = s.freeCount := rfl

/-! ### crcByte -/

@[simp] theorem State.crcByte_cfg (b : Byte) : (s.crcByte b).cfg = s.cfg := rfl
@[simp] theorem State.crcByte_init (b : Byte) : (s.crcByte b).init = s.init := rfl
@[simp] theorem State.crcByte_state (b : Byte) : (s.crcByte b).state = s.state := rfl
@[simp] theorem State.crcByte_dir (b : Byte) : (s.crcByte b).dir = s.dir := rfl
@[simp] theorem State.crcByte_req (b : Byte) : (s.crcByte b).req = s.req := rfl
@[simp] theorem State.crcByte_txbuf (b : Byte) : (s.crcByte b).txbuf = s.txbuf := rfl
@[simp] theorem State.crcByte_rxbuf (b : Byte) : (s.crcByte b).rxbuf = s.rxbuf := rfl
@[simp] theorem State.crcByte_rxcnt (b : Byte) : (s.crcByte b).rxcnt = s.rxcnt := rfl
@[simp] theorem State.crcByte_rxexp (b : Byte) : (s.crcByte b).rxexp = s.rxexp := rfl
@[simp] theorem State.crcByte_crc (b : Byte) : (s.crcByte b).crc = crcUpdate s.crc b := rfl
@[simp] theorem State.crcByte_window (b : Byte) : (s.crcByte b).window = s.window := rfl
@[simp] theorem State.crcByte_txErr (b : Byte) : (s.crcByte b).txErr = s.txErr := rfl
@[simp] theorem State.crcByte_result (b : Byte) : (s.crcByte b).result = s.result := rfl
@[simp] theorem State.crcByte_rdata (b : Byte) : (s.crcByte b).rdata = s.rdata := rfl
@[simp] theorem State.crcByte_params (b : Byte) : (s.crcByte b).params = s.params := rfl
@[simp] theorem State.crcByte_host (b : Byte) : (s.crcByte b).host = s.host := rfl
@[simp] theorem State.crcByte_env (b : Byte) : (s.crcByte b).env = s.env := rfl
@[simp] theorem State.crcByte_trace (b : Byte) : (s.crcByte b).trace = s.trace := rfl
@[simp] theorem State.crcByte_replies (b : Byte) : (s.crcByte b).replies = s.replies := rfl
@[simp] theorem State.crcByte_freeCount (b : Byte) : (s.crcByte b).freeCount = s.freeCount := rfl

/-! ### Feeding the CRC unit touches the accumulator only -/

/-- CRC_BYTE over a list leaves everything but CRC and folds `crcUpdate` over it. -/
theorem State.crcByte_foldl (f : List Byte) (s : State) :
    f.foldl (fun s b => s.crcByte b) s = { s with crc := f.foldl crcUpdate s.crc } := by
  induction f generalizing s with
  | nil => rfl
  | cons b f ih => simpa [State.crcByte] using ih (s.crcByte b)

/-- CRC_LOAD and CRC_BYTE over a sequence leave `crc16` of it in CRC and change nothing else (43_crc16.md R151 to R153). -/
theorem State.crcFeed_eq (f : List Byte) (s : State) : s.crcFeed f = { s with crc := crc16 f } := by
  simp [State.crcFeed, State.crcByte_foldl, crc16, State.crcLoad]

end Sys2Proof.Machine
end

