-- ==== Sys2Proof/Laws/Ops.lean ====
section
/-! SUPPORT. What each shared operation can do, said once: the outcome of a command at the port, of a request frame at the
transmitter and of a received frame at the validator, and from these what `exec` does with each kind of instruction. -/

namespace Sys2Proof.Machine

/-! ## The command port -/

theorem State.issue_accepted {s : State} {legal : Bool} {op : BitVec 4} {fc : Byte} {a b : Word}
    (h : s.state = .idle ∧ s.init ∧ legal) : s.issue legal op fc a b = .next (s.accept op fc a b) := if_pos h

theorem State.issue_refused {s : State} {legal : Bool} {op : BitVec 4} {fc : Byte} {a b : Word}
    (h : ¬ (s.state = .idle ∧ s.init ∧ legal)) : s.issue legal op fc a b = .next s.refuse := if_neg h

/-- A transaction command at the port is accepted in IDLE with INIT = 1, or refused (41_master_operations.md R100, R101). -/
theorem State.issue_cases {s t : State} {legal : Bool} {op : BitVec 4} {fc : Byte} {a b : Word}
    (h : s.issue legal op fc a b = .next t) :
    (s.state = .idle ∧ s.init = true ∧ legal = true ∧ t = s.accept op fc a b) ∨ t = s.refuse := by
  unfold State.issue at h
  split at h <;> cases h <;> simp_all

/-- A Boolean motor command is a single-register write to its parameter, or refused (R107 to R109). -/
theorem State.issueBoolean_cases {s t : State} {op : BitVec 4} {map : Option Word} {valT valF a : Word}
    (h : s.issueBoolean op map valT valF a = .next t) :
    (∃ addr, map = some addr ∧ s.state = .idle ∧ s.init = true ∧
      t = s.accept op Config.fcWrite addr (booleanValue a valT valF)) ∨ t = s.refuse := by
  cases map with
  | none => exact .inr (by cases h; rfl)
  | some addr =>
    rcases State.issue_cases h with ⟨hi, hn, -, rfl⟩ | rfl
    · exact .inl ⟨addr, rfl, hi, hn, rfl⟩
    · exact .inr rfl

/-! ## The transmitter -/

/-- The outcome is the head of the environment's list, or free where the list is empty (40_transport_adapter.md R92). -/
theorem State.nextWrite_cases (s : State) :
    (∃ later, s.env.writes = s.nextWrite :: later ∧ s.dropWrite = { s with env := { s.env with writes := later } }) ∨
    (s.env.writes = [] ∧ s.dropWrite = { s with freeCount := s.freeCount + 1 }) := by
  rcases s with ⟨cfg, init, state, dir, req, txbuf, rxbuf, rxcnt, rxexp, crc, window, txErr, result, rdata, params, host,
    ⟨writes, flushes, receive⟩, trace, replies, freeCount⟩
  cases writes with
  | nil => exact .inr ⟨rfl, rfl⟩
  | cons o later => exact .inl ⟨later, rfl, rfl⟩

/-- `write_bytes`: ok, or a fault after some bytes; it always returns (40_transport_adapter.md R92). -/
theorem State.writeBytes_cases (f : List Byte) (s : State) :
    (s.nextWrite = .ok ∧
      s.writeBytes f = { s.dropWrite with state := .flushTransmit, trace := s.trace ++ txEvents f }) ∨
    (∃ k, s.nextWrite = .fault k ∧
      s.writeBytes f = { s.dropWrite with
        txErr := true, state := .receive, dir := .low
        trace := s.trace ++ (txEvents (f.take k.val) ++ [.txFault]) ++ [.dir .low] }) := by
  unfold State.writeBytes
  cases h : s.nextWrite with
  | ok => exact .inl ⟨rfl, rfl⟩
  | fault k => exact .inr ⟨k, rfl, rfl⟩

/-- A request frame is run in TRANSMIT only. -/
theorem State.transmitFrame_cases {f : List Byte} {s t : State} (h : s.transmitFrame f = .next t) :
    (s.state = .transmit ∧ t = s.writeBytes f) ∨ (s.state ≠ .transmit ∧ t = s) := by
  unfold State.transmitFrame at h
  split at h <;> cases h <;> simp_all

/-! ## The validator -/

/-- The result is written as Success or as a failure (44_frame_codec.md R190, 60_exceptions.md R216). -/
theorem State.conclude_cases (r : TransactionResult) (s : State) :
    (∃ p, r = .success p ∧ s.conclude r = s.succeed p) ∨ (∃ k, r = .failure k ∧ s.conclude r = s.takeFailure k) := by
  cases r with
  | success p => exact .inl ⟨p, rfl, rfl⟩
  | failure k => exact .inr ⟨k, rfl, rfl⟩

/-- A received frame is judged in VALIDATE only. -/
theorem State.judgeFrame_cases {f : List Byte} {s t : State} (h : s.judgeFrame f = .next t) :
    (s.state = .validate ∧
      t = ({ s with crc := crc16 (crcBody f) } : State).conclude (validate s.req.fc s.req.a s.req.b f)) ∨
    (s.state ≠ .validate ∧ t = s) := by
  unfold State.judgeFrame at h
  rw [State.crcFeed_eq] at h
  split at h <;> cases h <;> simp_all

/-- A judged frame in VALIDATE, as one equation. -/
theorem State.judgeFrame_validate {f : List Byte} {s : State} (h : s.state = .validate) :
    s.judgeFrame f =
      .next (({ s with crc := crc16 (crcBody f) } : State).conclude (validate s.req.fc s.req.a s.req.b f)) := by
  rw [State.judgeFrame, if_pos h, State.crcFeed_eq]

/-! ## exec -/

/-- What a command word can do (41_master_operations.md R100 to R102). -/
inductive CommandCase (s : State) : State → Prop where
  | refused : CommandCase s s.refuse
  | initialized (idle : s.state = .idle) (ready : s.initializable = true) : CommandCase s s.initialized
  | accepted (op : BitVec 4) (fc : Byte) (a b : Word) (idle : s.state = .idle) (init : s.init = true)
      (request : fc = Config.fcRead ∧ countLegal b = true ∨ fc = Config.fcWrite) : CommandCase s (s.accept op fc a b)

theorem CommandCase.of_issue {s t : State} {legal : Bool} {op : BitVec 4} {fc : Byte} {a b : Word}
    (request : legal = true → fc = Config.fcRead ∧ countLegal b = true ∨ fc = Config.fcWrite)
    (h : s.issue legal op fc a b = .next t) : CommandCase s t := by
  rcases State.issue_cases h with ⟨hi, hn, hl, rfl⟩ | rfl
  · exact .accepted op fc a b hi hn (request hl)
  · exact .refused

theorem CommandCase.of_issueBoolean {s t : State} {op : BitVec 4} {map : Option Word} {valT valF a : Word}
    (h : s.issueBoolean op map valT valF a = .next t) : CommandCase s t := by
  rcases State.issueBoolean_cases h with ⟨addr, -, hi, hn, rfl⟩ | rfl
  · exact .accepted op _ addr _ hi hn (.inr rfl)
  · exact .refused

/-- Every command word does one of these. -/
theorem exec_command_cases {i : Instr} {w : BitVec 36} {s t : State} (hw : encode i = .command w)
    (h : exec i s = .next t) : CommandCase s t := by
  cases i with
  | initMaster a b =>
    simp only [exec, execInitMaster] at h
    split at h <;> cases h
    · exact .initialized (And.left ‹_›) (And.right ‹_›)
    · exact .refused
  | readHoldingRegisters start count => exact .of_issue (fun hl => .inl ⟨rfl, hl⟩) h
  | writeSingleRegister addr value => exact .of_issue (fun _ => .inr rfl) h
  | readMotorTelemetry a b => exact .of_issue (fun _ => .inl ⟨rfl, by decide⟩) h
  | setMotorSpeed value b => exact .of_issue (fun _ => .inr rfl) h
  | setMotorEnable a b => exact .of_issueBoolean h
  | setMotorDirection a b => exact .of_issueBoolean h
  | setMotorBrake a b => exact .of_issueBoolean h
  | reservedOp low a b => cases h; exact .refused
  | fc3Request slave start count crc => cases hw
  | fc6Request slave addr value crc => cases hw
  | fc3Response slave byteCount values crc => cases hw
  | fc6Response slave addr value crc => cases hw
  | exceptionResponseFc3 slave code crc => cases hw
  | exceptionResponseFc6 slave code crc => cases hw
  | otherFunctionByte slave function rest => cases hw

/-- A request frame at the transmitter is its bytes (40_transport_adapter.md R92). -/
theorem exec_request {i : Instr} {f : List Byte} (s : State) (hf : encode i = .request f) :
    exec i s = s.transmitFrame f := by
  cases i <;> cases hf <;> rfl

/-- A received frame at the validator is its bytes (44_frame_codec.md R181). -/
theorem exec_response {i : Instr} {f : List Byte} (s : State) (hf : encode i = .response f) :
    exec i s = s.judgeFrame f := by
  cases i <;> cases hf <;> rfl

end Sys2Proof.Machine
end

