-- ==== Sys2Proof/Laws/PerInstr.lean ====
section
/-! SUPPORT. The family EncodedShape: the words of a well-formed instruction have the shape spec/opcode_table.json gives its row,
the opcode of a command word (30_encoding.md R60), byte 1 and the length of a frame (R62 to R67, R75). -/

namespace Sys2Proof.Laws.EncodedShape

/-- A command word with opcode `op`. -/
def isCommand (op : Nat) : Code → Prop
  | .command w => w.toNat / 2 ^ 32 = op
  | .request _ => False
  | .response _ => False

/-- A request frame with function code `fc`. -/
def isRequest (fc : Byte) : Code → Prop
  | .command _ => False
  | .request f => f.length = 8 ∧ f[1]? = some fc
  | .response _ => False

/-- A received frame with byte 1 `function` and a length of R75. -/
def isResponse (function : Byte) : Code → Prop
  | .command _ => False
  | .request _ => False
  | .response f => f[1]? = some function ∧ 2 ≤ f.length ∧ responseLength function (f.length - 2) = true

/-- The shape of the row an instruction stands for. -/
def shape : Instr → Code → Prop
  | .initMaster _ _ => isCommand 0
  | .readHoldingRegisters _ _ => isCommand 1
  | .writeSingleRegister _ _ => isCommand 2
  | .readMotorTelemetry _ _ => isCommand 3
  | .setMotorSpeed _ _ => isCommand 4
  | .setMotorEnable _ _ => isCommand 5
  | .setMotorDirection _ _ => isCommand 6
  | .setMotorBrake _ _ => isCommand 7
  | .reservedOp low _ _ => isCommand (8 + low.toNat)
  | .fc3Request _ _ _ _ => isRequest 3
  | .fc6Request _ _ _ _ => isRequest 6
  | .fc3Response _ _ _ _ => isResponse 3
  | .fc6Response _ _ _ _ => isResponse 6
  | .exceptionResponseFc3 _ _ _ => isResponse 0x83
  | .exceptionResponseFc6 _ _ _ => isResponse 0x86
  | .otherFunctionByte _ function _ => isResponse function

/-- The family's statement about one instruction. -/
def Statement (i : Instr) : Prop := i.wellFormed = true → shape i (encode i)

/-- A command word as a number. -/
theorem toNat_commandWord (op : BitVec 4) (a b : Word) :
    (commandWord op a b).toNat = op.toNat * 2 ^ 32 + a.toNat * 2 ^ 16 + b.toNat := by
  have h1 : (commandWord op a b).toNat = (op ++ a).toNat <<< 16 ||| b.toNat := BitVec.toNat_append (op ++ a) b
  have h2 : (op ++ a).toNat = op.toNat <<< 16 ||| a.toNat := BitVec.toNat_append op a
  have e1 := Nat.two_pow_add_eq_or_of_lt (i := 16) b.isLt (op ++ a).toNat
  have e2 := Nat.two_pow_add_eq_or_of_lt (i := 16) a.isLt op.toNat
  rw [h1, Nat.shiftLeft_eq, Nat.mul_comm, ← e1, h2, Nat.shiftLeft_eq, Nat.mul_comm op.toNat, ← e2]
  omega

/-- The opcode of a command word. -/
theorem isCommand_commandWord (op : BitVec 4) (a b : Word) : isCommand op.toNat (.command (commandWord op a b)) := by
  have := toNat_commandWord op a b
  simp only [isCommand]
  omega

/-- The opcode of a reserved command word (R71(a)). -/
theorem toNat_reserved (low : BitVec 3) : (1#1 ++ low : BitVec 4).toNat = 8 + low.toNat := by
  revert low; decide

theorem initMaster (a b : Word) : Statement (.initMaster a b) := fun _ => isCommand_commandWord 0 a b

theorem readHoldingRegisters (start count : Word) : Statement (.readHoldingRegisters start count) :=
  fun _ => isCommand_commandWord 1 start count

theorem writeSingleRegister (addr value : Word) : Statement (.writeSingleRegister addr value) :=
  fun _ => isCommand_commandWord 2 addr value

theorem readMotorTelemetry (a b : Word) : Statement (.readMotorTelemetry a b) := fun _ => isCommand_commandWord 3 a b

theorem setMotorSpeed (value b : Word) : Statement (.setMotorSpeed value b) := fun _ => isCommand_commandWord 4 value b

theorem setMotorEnable (a b : Word) : Statement (.setMotorEnable a b) := fun _ => isCommand_commandWord 5 a b

theorem setMotorDirection (a b : Word) : Statement (.setMotorDirection a b) := fun _ => isCommand_commandWord 6 a b

theorem setMotorBrake (a b : Word) : Statement (.setMotorBrake a b) := fun _ => isCommand_commandWord 7 a b

theorem reservedOp (low : BitVec 3) (a b : Word) : Statement (.reservedOp low a b) := by
  intro _
  have := isCommand_commandWord (1#1 ++ low) a b
  rw [toNat_reserved] at this
  exact this

theorem fc3Request (slave : Byte) (start count crc : Word) : Statement (.fc3Request slave start count crc) :=
  fun _ => ⟨rfl, rfl⟩

theorem fc6Request (slave : Byte) (addr value crc : Word) : Statement (.fc6Request slave addr value crc) :=
  fun _ => ⟨rfl, rfl⟩

theorem fc3Response (slave byteCount : Byte) (values : List Word) (crc : Word) :
    Statement (.fc3Response slave byteCount values crc) := by
  intro h
  simp [Instr.wellFormed, Config.maxCount] at h
  refine ⟨rfl, by simp [readFrame], ?_⟩
  simp [readFrame, responseLength, normalLength]
  omega

theorem fc6Response (slave : Byte) (addr value crc : Word) : Statement (.fc6Response slave addr value crc) :=
  fun _ => ⟨rfl, by simp [frame8], rfl⟩

theorem exceptionResponseFc3 (slave code : Byte) (crc : Word) : Statement (.exceptionResponseFc3 slave code crc) :=
  fun _ => ⟨rfl, by simp [frame5], rfl⟩

theorem exceptionResponseFc6 (slave code : Byte) (crc : Word) : Statement (.exceptionResponseFc6 slave code crc) :=
  fun _ => ⟨rfl, by simp [frame5], rfl⟩

theorem otherFunctionByte (slave function : Byte) (rest : List Byte) :
    Statement (.otherFunctionByte slave function rest) :=
  fun h => ⟨rfl, by simp, by simpa [Instr.wellFormed] using h⟩

end Sys2Proof.Laws.EncodedShape
end

