-- ==== Sys2Proof/Laws/Step.lean ====
section
/-! SUPPORT. What one step can do, said once: the host's action at the head of `host`, or the block's own step. -/

namespace Sys2Proof.Machine

/-- What the block's own step can do: send the frame in TXBUF, judge the frame in RXBUF[0..RXEXP], or take the step of another
state. -/
inductive BlockCase (s : State) : State → Prop where
  | transmit (at_ : s.state = .transmit) : BlockCase s (s.writeBytes s.txFrame)
  | validate (at_ : s.state = .validate) :
      BlockCase s (({ s with crc := crc16 (crcBody s.rxFrame) } : State).conclude
        (validate s.req.fc s.req.a s.req.b s.rxFrame))
  | advance (notTransmit : s.state ≠ .transmit) (notValidate : s.state ≠ .validate) : BlockCase s s.advance

/-- What one step can do. -/
inductive StepCase (s : State) : State → Prop where
  | command (w : BitVec 36) (later : List Action) (t : State) (at_ : s.host = .command w :: later)
      (ran : CommandCase { s with host := later } t) : StepCase s t
  | writeReg (n v : Nat) (later : List Action) (at_ : s.host = .writeReg n v :: later) :
      StepCase s (State.writeReg n v { s with host := later })
  | readReg (n : Nat) (later : List Action) (at_ : s.host = .readReg n :: later) :
      StepCase s (State.readReg n { s with host := later })
  | reset (sent : Fin 9) (later : List Action) (at_ : s.host = .reset sent :: later) :
      StepCase s (State.assertReset sent { s with host := later })
  | ready (later : List Action) (at_ : s.host = .awaitReady :: later) (idle : s.state = .idle) :
      StepCase s { s with host := later }
  /-- The block moves; `later` are the host's actions left. -/
  | block (later : List Action) (t : State)
      (at_ : s.host = later ∧ (later = [] ∨ (∃ rest, later = .awaitReady :: rest) ∧ s.state ≠ .idle) ∨
        s.host = .letRun :: later)
      (ran : BlockCase { s with host := later } t) : StepCase s t

/-- The step over what `fetch` found. -/
def Fetched.outcome : Fetched → Host.Outcome State Fault Refusal
  | .run i t => exec i t
  | .done t => .next t
  | .fault r => .fault r
  | .refused r => .refused r

theorem step_eq (s : State) : step s = s.fetch.outcome := by
  unfold step Fetched.outcome
  cases s.fetch <;> rfl

theorem BlockCase.of_fetchBlock {s t : State} (h : s.fetchBlock.outcome = .next t) : BlockCase s t := by
  unfold State.fetchBlock at h
  have adv : ∀ {u : State}, (Fetched.done u).outcome = .next t → t = u := fun h => by cases h; rfl
  split at h
  case h_3 hs =>
    cases hd : decodeRequest s.txFrame with
    | ok i =>
      rw [hd] at h
      have ran : exec i s = .next t := h
      rw [exec_request s (encode_of_decodeRequest hd), State.transmitFrame, if_pos hs] at ran
      cases ran
      exact .transmit hs
    | error e => rw [hd] at h; cases h
  case h_7 hs =>
    cases hd : decodeResponse s.req.fc s.rxFrame with
    | ok i =>
      rw [hd] at h
      have ran : exec i s = .next t := h
      rw [exec_response s (encode_of_decodeResponse hd), State.judgeFrame_validate hs] at ran
      cases ran
      exact .validate hs
    | error e => rw [hd] at h; cases h
  all_goals
    rename_i hs
    rw [adv h]
    exact .advance (by simp [hs]) (by simp [hs])

/-- Every step that answers a next state is one of these. -/
theorem step_cases {s t : State} (h : step s = .next t) : StepCase s t := by
  rw [step_eq] at h
  unfold State.fetch at h
  split at h
  case h_1 hs => exact .block [] t (.inl ⟨hs, .inl rfl⟩) (.of_fetchBlock (by rw [← hs]; exact h))
  case h_2 w later hs =>
    obtain ⟨v, hv⟩ := encode_decodeCommand_isCommand w
    exact .command w later t hs (exec_command_cases hv h)
  case h_3 n v later hs => cases h; exact .writeReg n v later hs
  case h_4 n later hs => cases h; exact .readReg n later hs
  case h_5 sent later hs => cases h; exact .reset sent later hs
  case h_6 later hs => exact .block later t (.inr hs) (.of_fetchBlock h)
  case h_7 later hs =>
    split at h
    · rename_i hr; cases h; exact .ready later hs (by simpa [State.cmdReady] using hr)
    · rename_i hr
      exact .block (.awaitReady :: later) t
        (.inl ⟨hs, .inr ⟨⟨later, rfl⟩, by simpa [State.cmdReady] using hr⟩⟩) (.of_fetchBlock (by rw [← hs]; exact h))
  case h_8 => cases h

end Sys2Proof.Machine
end

