-- ==== Sys2Proof/Laws/Sequencer.lean ====
section
/-! SUPPORT. What each state of the sequencer that runs no frame can do, said once (spec 42_transaction_sequencer.md R121, R122,
R126 to R131, R134), and what storing one response byte does (R129, R130). -/

namespace Sys2Proof.Machine

/-- R180: for a request the block makes, an expected length fits the 8-bit RXEXP. -/
theorem expectedLength_bounds {fc : Byte} {b : Word} (f1 : Byte) (h : fc = Config.fcRead → countLegal b = true) :
    5 ≤ expectedLength fc b f1 ∧ expectedLength fc b f1 ≤ 255 := by
  unfold expectedLength
  split
  · omega
  · split
    · have := h ‹_›
      simp only [countLegal, Config.maxCount, Bool.and_eq_true, decide_eq_true_eq] at this
      omega
    · omega

/-- R130: either the response is complete and VALIDATE is entered, or nothing happens. -/
theorem State.closeIfComplete_cases (s : State) :
    (s.complete = true ∧ s.closeIfComplete = { s with window := false, state := .validate }) ∨
    (s.complete = false ∧ s.closeIfComplete = s) := by
  unfold State.closeIfComplete
  cases h : s.complete <;> simp

/-- R129: what storing one byte does, where there is room for it. -/
theorem State.storeByte_facts {s : State} (b : Byte) (room : s.rxcnt.toNat < 255)
    (count : s.req.fc = Config.fcRead → countLegal s.req.b = true) :
    (State.storeByte b s).rxcnt.toNat = s.rxcnt.toNat + 1 ∧
    (State.storeByte b s).rxbuf.toList = s.rxbuf.toList.set s.rxcnt.toNat b ∧
    (s.rxcnt.toNat + 1 = 2 → (State.storeByte b s).rxexp.toNat = expectedLength s.req.fc s.req.b b) ∧
    (s.rxcnt.toNat + 1 ≠ 2 → (State.storeByte b s).rxexp = s.rxexp) := by
  have cnt : (s.rxcnt + 1).toNat = s.rxcnt.toNat + 1 := by rw [BitVec.toNat_add]; simp; omega
  have two : s.rxcnt + 1 = 2 ↔ s.rxcnt.toNat + 1 = 2 := by rw [← BitVec.toNat_inj, cnt]; simp
  refine ⟨cnt, by simp [State.storeByte, State.emit, Vector.toList_setIfInBounds], ?_, ?_⟩
  · intro h
    have h1 : s.rxcnt.toNat = 1 := by omega
    have hb : byteAt (s.rxbuf.setIfInBounds s.rxcnt.toNat b).toList 1 = b := by
      simp [byteAt, h1, Vector.toList_setIfInBounds]
    have := expectedLength_bounds b count
    simp only [State.storeByte, State.emit, if_pos (two.2 h), hb, BitVec.toNat_ofNat]
    omega
  · intro h
    simp only [State.storeByte, State.emit]
    rw [if_neg (fun h' => h (two.1 h'))]

/-- What a state of the sequencer that runs no frame can do. -/
inductive AdvanceCase (s : State) : State → Prop where
  | waiting (at_ : s.state = .idle ∨ s.state = .flushTransmit ∧ s.env.flushes = 0) : AdvanceCase s s
  | built (at_ : s.state = .buildFrame) (buf : Vector Byte 8) (crc : Word)
      (frame : buf.toList = encodeRequest s.cfg.slaveAddr s.req.fc s.req.a s.req.b) :
      AdvanceCase s { s with
        txbuf := buf, crc := crc, state := .transmit, dir := .high, trace := s.trace ++ [.dir .high] }
  | flushed (at_ : s.state = .flushTransmit) (n : Nat) (some_ : s.env.flushes = n + 1) :
      AdvanceCase s { s with
        env := { s.env with flushes := n }, state := .receive, dir := .low
        trace := s.trace ++ [.flushed, .dir .low] }
  | ioError (at_ : s.state = .receive) (fault : s.txErr = true) : AdvanceCase s (s.takeFailure .ioError)
  | opened (at_ : s.state = .receive) (ok : s.txErr = false) : AdvanceCase s s.enterAwait
  | closed (at_ : s.state = .awaitResponse) (done : s.complete = true) :
      AdvanceCase s { s with window := false, state := .validate }
  | byte (at_ : s.state = .awaitResponse) (notDone : s.complete = false) (more : s.incomplete = true) (b : Byte)
      (later : List ReceiveEvent) (next : s.env.receive = .byte b :: later) :
      AdvanceCase s (State.storeByte b { s with env := { s.env with receive := later } }).closeIfComplete
  /-- TIMEOUT comes, or no byte comes that the block asks for. -/
  | timeout (at_ : s.state = .awaitResponse) (notDone : s.complete = false) (later : List ReceiveEvent)
      (next : s.env.receive = .timeout :: later ∨ s.env.receive = later ∧ (later = [] ∨ s.incomplete = false)) :
      AdvanceCase s (State.windowTimeout { s with env := { s.env with receive := later } })
  | returned (at_ : s.state = .errorReported) : AdvanceCase s s.returnToIdle

theorem State.advance_cases {s : State} (h1 : s.state ≠ .transmit) (h2 : s.state ≠ .validate) :
    AdvanceCase s s.advance := by
  cases hs : s.state with
  | idle => simp only [State.advance, hs]; exact .waiting (.inl hs)
  | buildFrame =>
    have frame := toList_storeFrom_full (encodeRequest s.cfg.slaveAddr s.req.fc s.req.a s.req.b) s.txbuf
      (by simp [encodeRequest, appendCrc, requestBody])
    simp only [State.advance, hs, State.buildFrame, State.crcFeed_eq, State.enterTransmit, State.setDirection, State.emit,
      Mode.level]
    exact .built hs _ _ frame
  | transmit => exact absurd hs h1
  | flushTransmit =>
    simp only [State.advance, hs, State.flushWait]
    split
    · exact .waiting (.inr ⟨hs, ‹_›⟩)
    · rename_i n hn
      simp only [State.emit, State.enterReceive, State.setDirection, Mode.level, List.append_assoc]
      exact .flushed hs n hn
  | receive =>
    simp only [State.advance, hs, State.receiveTurn]
    split
    · exact .ioError hs ‹_›
    · exact .opened hs (Bool.eq_false_iff.2 ‹_›)
  | awaitResponse =>
    simp only [State.advance, hs]
    unfold State.awaitTurn
    split
    · rename_i hc
      rw [State.closeIfComplete, if_pos hc]
      exact .closed hs hc
    · rename_i hc
      split
      · exact .timeout hs (Bool.eq_false_iff.2 hc) s.env.receive (.inr ⟨rfl, .inl ‹_›⟩)
      · exact .timeout hs (Bool.eq_false_iff.2 hc) _ (.inl ‹_›)
      · split
        · exact .byte hs (Bool.eq_false_iff.2 hc) ‹_› _ _ ‹_›
        · exact .timeout hs (Bool.eq_false_iff.2 hc) s.env.receive (.inr ⟨rfl, .inr (Bool.eq_false_iff.2 ‹_›)⟩)
  | validate => exact absurd hs h2
  | errorReported => simp only [State.advance, hs]; exact .returned hs

end Sys2Proof.Machine
end

