-- ==== Sys2Proof/Laws/Slave.lean ====
section
/-! SUPPORT. The simulated slave's holding registers: a read after a write, and the canonical form. -/

namespace Sys2Proof.Machine

/-- Every address of the list is above `a`. -/
def Cells.above (a : Nat) (c : Cells) : Prop := ∀ e ∈ c, a < e.1

theorem Cells.wf_cons {a : Nat} {w : Word} {c : Cells} :
    Cells.wf ((a, w) :: c) = true ↔ w ≠ 0 ∧ Cells.above a c ∧ Cells.wf c = true := by
  induction c generalizing a w with
  | nil => simp [Cells.wf, Cells.above]
  | cons e c ih =>
    obtain ⟨b, v⟩ := e
    simp only [Cells.wf, Bool.and_eq_true, bne_iff_ne, decide_eq_true_eq]
    constructor
    · rintro ⟨⟨hw, hab⟩, hc⟩
      refine ⟨hw, ?_, hc⟩
      intro e he
      rcases List.mem_cons.1 he with rfl | he
      · exact hab
      · exact Nat.lt_trans hab ((ih.1 hc).2.1 e he)
    · rintro ⟨hw, hab, hc⟩
      exact ⟨⟨hw, hab (b, v) (by simp)⟩, hc⟩

theorem Cells.read_of_above {a : Nat} {c : Cells} (h : Cells.above a c) : Cells.read a c = 0 := by
  induction c with
  | nil => rfl
  | cons e c ih =>
    obtain ⟨b, v⟩ := e
    have hb : a < b := h (b, v) (by simp)
    simp [Cells.read, Nat.ne_of_lt hb, ih (fun e he => h e (by simp [he]))]

theorem Cells.read_cons (a b : Nat) (w : Word) {c : Cells} (h : Cells.read b c = 0) :
    Cells.read a (Cells.cons b w c) = if a = b then w else Cells.read a c := by
  unfold Cells.cons
  split
  · rename_i hw
    split
    · rename_i hab; rw [hab, h, hw]
    · rfl
  · simp [Cells.read]

theorem Cells.write_above {a b : Nat} {w : Word} {c : Cells} (ha : b < a) (h : Cells.above b c) :
    Cells.above b (Cells.write a w c) := by
  induction c with
  | nil =>
    intro e he
    simp only [Cells.write, Cells.cons] at he
    split at he
    · simp at he
    · simp at he; simp [he, ha]
  | cons e c ih =>
    obtain ⟨x, v⟩ := e
    have hx : b < x := h (x, v) (by simp)
    have hc : Cells.above b c := fun e he => h e (by simp [he])
    intro e he
    simp only [Cells.write, Cells.cons] at he
    split at he
    · split at he
      · exact h e he
      · rcases List.mem_cons.1 he with rfl | he
        · exact ha
        · exact h e he
    · split at he
      · split at he
        · exact hc e he
        · rcases List.mem_cons.1 he with rfl | he
          · exact ha
          · exact hc e he
      · rcases List.mem_cons.1 he with rfl | he
        · exact hx
        · exact ih hc e he

/-- Writing a cell keeps the canonical form. -/
theorem Cells.write_wf (a : Nat) (w : Word) {c : Cells} (h : Cells.wf c = true) :
    Cells.wf (Cells.write a w c) = true := by
  induction c with
  | nil =>
    simp only [Cells.write, Cells.cons]
    split
    · rfl
    · simpa [Cells.wf] using ‹¬ w = 0›
  | cons e c ih =>
    obtain ⟨b, v⟩ := e
    obtain ⟨hv, hab, hc⟩ := Cells.wf_cons.1 h
    simp only [Cells.write, Cells.cons]
    split
    · split
      · exact h
      · refine Cells.wf_cons.2 ⟨‹_›, ?_, h⟩
        intro e he
        rcases List.mem_cons.1 he with rfl | he
        · assumption
        · exact Nat.lt_trans ‹a < b› (hab e he)
    · split
      · subst_vars
        split
        · exact hc
        · exact Cells.wf_cons.2 ⟨‹_›, hab, hc⟩
      · exact Cells.wf_cons.2 ⟨hv, Cells.write_above (by omega) hab, ih hc⟩

/-- Reading after a write to a list of cells in canonical form: the value written, and every other cell as before. -/
theorem Cells.read_write (a b : Nat) (w : Word) {c : Cells} (h : Cells.wf c = true) :
    Cells.read a (Cells.write b w c) = if a = b then w else Cells.read a c := by
  induction c with
  | nil => simpa [Cells.write] using Cells.read_cons a b w (c := []) rfl
  | cons e c ih =>
    obtain ⟨x, v⟩ := e
    obtain ⟨-, hab, hc⟩ := Cells.wf_cons.1 h
    simp only [Cells.write]
    by_cases hlt : b < x
    · rw [if_pos hlt]
      refine Cells.read_cons a b w (Cells.read_of_above ?_)
      intro e he
      rcases List.mem_cons.1 he with rfl | he
      · exact hlt
      · exact Nat.lt_trans hlt (hab e he)
    · rw [if_neg hlt]
      by_cases heq : b = x
      · subst heq
        rw [if_pos rfl, Cells.read_cons a b w (Cells.read_of_above hab)]
        by_cases hab' : a = b <;> simp [Cells.read, hab']
      · rw [if_neg heq]
        by_cases hax : a = x
        · have : a ≠ b := fun h => heq (by omega)
          simp [Cells.read, hax, Ne.symm heq]
        · simp [Cells.read, hax, ih hc]

/-- Reading back the cell just written, whatever the list looks like. -/
theorem Cells.read_write_same (a : Nat) (w : Word) {c : Cells} (h : Cells.wf c = true) :
    Cells.read a (Cells.write a w c) = w := by simp [Cells.read_write a a w h]

end Sys2Proof.Machine
end

