-- ==== Sys2Proof/Tests/Slice0.lean ====
section
/-! SUPPORT. Tests of the model against the spec's own vectors (spec 95_test_vectors.md, cited as V<n>, P<n>), a smoke test of
WellFormed, and for every obligation with hypotheses a witness that meets them. -/

open Sys2Proof Sys2Proof.Machine

namespace Sys2Proof.Tests

set_option maxRecDepth 20000

/-! ## Small states -/

/-- The block after the boot of P1: configured with CFG_PROTOCOL_MAX = 3000 and initialized. -/
def booted : State :=
  { State.reset with
    cfg := { Cfg.reset with protocolMax := 3000, timeout := 5, wrPmax := true, wrTimeout := true }
    init := true
    result := { done := true, kind := .success, rop := 0, excCode := 0, rcount := 0 } }

/-- Configured but not initialized, with a slave address. -/
def configured (slave : Byte) : State :=
  { booted with init := false, result := ResultReg.cleared, cfg := { booted.cfg with slaveAddr := slave } }

/-- A request in flight. -/
def inFlight (st : SeqState) (op : BitVec 4) (fc : Byte) (a b : Word) : State :=
  { booted with state := st, req := { op := op, fc := fc, a := a, b := b }, result := ResultReg.cleared }

/-- A view of the next state, where there is one. -/
def after {α : Type} (o : Host.Outcome State Fault Refusal) (view : State → α) : Option α :=
  match o with
  | .next s => some (view s)
  | .fault _ => none
  | .refused _ => none

theorem next_of_after {o : Host.Outcome State Fault Refusal} (h : after o (fun _ => ()) = some ()) : ∃ t, o = .next t := by
  cases o with
  | next s => exact ⟨s, rfl⟩
  | fault r => cases h
  | refused r => cases h

/-- The request latches as one tuple. -/
def latches (s : State) : BitVec 4 × Byte × Word × Word := (s.req.op, s.req.fc, s.req.a, s.req.b)

/-! ## WellFormed refuses -/

/-- R75: a function-code-3 response carries at least one register. -/
theorem test_wf_refuses_no_values : (Instr.fc3Response 0x64 0 [] 0).wellFormed = false := by decide
/-- R75: and at most 125. -/
theorem test_wf_refuses_126_values : (Instr.fc3Response 0x64 252 (List.replicate 126 0) 0).wellFormed = false := by decide
/-- R180: with bit 7 of byte 1 set the frame is 5 bytes long. -/
theorem test_wf_refuses_long_exception : (Instr.otherFunctionByte 0x64 0x90 [0, 0, 0, 0]).wellFormed = false := by decide
/-- R180: with bit 7 clear it has the length of a normal response. -/
theorem test_wf_refuses_short_frame : (Instr.otherFunctionByte 0x64 0x04 [0, 0, 0]).wellFormed = false := by decide
/-- R75: and a read response has an odd length. -/
theorem test_wf_refuses_even_length : (Instr.otherFunctionByte 0x64 0x04 (List.replicate 8 0)).wellFormed = false := by
  decide

/-! ## The CRC unit -/

/-- V1, V2, V3. -/
theorem test_crc16_vectors :
    crc16 [0x31, 0x32, 0x33, 0x34, 0x35, 0x36, 0x37, 0x38, 0x39] = 0x4B37 ∧ crc16 [] = 0xFFFF ∧
    crc16 [0x00] = 0x40BF ∧ crc16 [0x64, 0x03] = 0x716B ∧ crc16 [0xFF, 0xFF] = 0x0000 := by decide
/-- V5. -/
theorem test_crcUpdate_vectors :
    crcUpdate 0xFFFF 0x00 = 0x40BF ∧ crcUpdate 0x0000 0x01 = 0xC0C1 ∧ crcUpdate 0x8000 0x00 = 0x0080 := by decide
/-- V9, V10, V11. -/
theorem test_crcOk_vectors :
    crcOk [0x64, 0x03, 0x04, 0x04, 0xB0, 0x03, 0x52, 0x4E, 0xEF] = true ∧
    crcOk [0x64, 0x03, 0x04, 0x04, 0xB1, 0x03, 0x52, 0x4E, 0xEF] = false ∧
    crcOk [0x64, 0x03, 0x04, 0x04, 0xB0, 0x03, 0x52, 0xEF, 0x4E] = false := by decide

/-! ## Encoding and decoding, from the words of the spec -/

/-- V22, V25, V27. -/
theorem test_encodeRequest_vectors :
    encodeRequest 0x64 3 0x0000 125 = [0x64, 0x03, 0x00, 0x00, 0x00, 0x7D, 0x8C, 0x1E] ∧
    encodeRequest 0xF7 3 0x0015 2 = [0xF7, 0x03, 0x00, 0x15, 0x00, 0x02, 0xC1, 0x59] ∧
    encodeRequest 0x64 6 0x0001 5000 = [0x64, 0x06, 0x00, 0x01, 0x13, 0x88, 0xDC, 0xA9] := by decide
/-- 95_test_vectors.md 2.3. -/
theorem test_expectedLength_vectors :
    expectedLength 3 2 0x03 = 9 ∧ expectedLength 3 125 0x03 = 255 ∧ expectedLength 3 2 0x80 = 5 ∧
    expectedLength 3 2 0x7F = 9 ∧ expectedLength 6 3000 0x03 = 8 ∧ expectedLength 6 3000 0x86 = 5 := by decide
/-- V74. -/
theorem test_decode_initMaster : decodeCommand 0x0_0000_0000 = .initMaster 0 0 := by decide
/-- V79. -/
theorem test_decode_readHoldingRegisters : decodeCommand 0x1_0015_007D = .readHoldingRegisters 0x0015 125 := by decide
/-- P3 step 5. -/
theorem test_decode_writeSingleRegister : decodeCommand 0x2_0001_0BB8 = .writeSingleRegister 0x0001 3000 := by decide
/-- V83. -/
theorem test_decode_readMotorTelemetry : decodeCommand 0x3_FFFF_FFFF = .readMotorTelemetry 0xFFFF 0xFFFF := by decide
/-- P2 step 1. -/
theorem test_decode_setMotorSpeed : decodeCommand 0x4_1388_0000 = .setMotorSpeed 5000 0 := by decide
/-- V85. -/
theorem test_decode_setMotorEnable : decodeCommand 0x5_0001_0000 = .setMotorEnable 1 0 := by decide
/-- R60. -/
theorem test_decode_setMotorDirection : decodeCommand 0x6_0001_0000 = .setMotorDirection 1 0 := by decide
/-- R60. -/
theorem test_decode_setMotorBrake : decodeCommand 0x7_0001_0000 = .setMotorBrake 1 0 := by decide
/-- V80, both ends. -/
theorem test_decode_reservedOp :
    decodeCommand 0x8_0000_0000 = .reservedOp 0 0 0 ∧ decodeCommand 0xF_FFFF_FFFF = .reservedOp 7 0xFFFF 0xFFFF := by
  decide
/-- V20. -/
theorem test_decode_fc3Request :
    decodeRequest [0x64, 0x03, 0x00, 0x15, 0x00, 0x02, 0xDC, 0x3A] = .ok (.fc3Request 0x64 0x0015 2 0x3ADC) := by rfl
/-- V26. -/
theorem test_decode_fc6Request :
    decodeRequest [0x64, 0x06, 0x00, 0x01, 0x0B, 0xB8, 0xD6, 0xBD] = .ok (.fc6Request 0x64 0x0001 3000 0xBDD6) := by rfl
/-- V34. -/
theorem test_decode_fc3Response :
    decodeResponse 3 [0x64, 0x03, 0x04, 0x04, 0xB0, 0x03, 0x52, 0x4E, 0xEF] =
      .ok (.fc3Response 0x64 4 [1200, 850] 0xEF4E) := by rfl
/-- V61. -/
theorem test_decode_fc6Response :
    decodeResponse 6 [0x64, 0x06, 0x00, 0x01, 0x0B, 0xB9, 0x17, 0x7D] = .ok (.fc6Response 0x64 0x0001 3001 0x7D17) := by
  rfl
/-- V36. -/
theorem test_decode_exceptionResponseFc3 :
    decodeResponse 3 [0x64, 0x83, 0x02, 0xD0, 0xEE] = .ok (.exceptionResponseFc3 0x64 2 0xEED0) := by rfl
/-- V63. -/
theorem test_decode_exceptionResponseFc6 :
    decodeResponse 6 [0x64, 0x86, 0x03, 0x12, 0x7E] = .ok (.exceptionResponseFc6 0x64 3 0x7E12) := by rfl
/-- V39: the exception form of the other function code is no exception response. -/
theorem test_decode_otherFunctionByte :
    decodeResponse 3 [0x64, 0x86, 0x02, 0xD3, 0xBE] = .ok (.otherFunctionByte 0x64 0x86 [0x02, 0xD3, 0xBE]) := by rfl
/-- R72, R75: what is no frame is refused by name. -/
theorem test_decode_refuses :
    decodeRequest [0x64, 0x04, 0, 0, 0, 0, 0, 0] = .error .requestFunction ∧ decodeRequest [0x64] = .error .requestLength ∧
    decodeResponse 3 [0x64, 0x83, 0x02, 0xD0] = .error .receivedLength := by
  refine ⟨?_, ?_, ?_⟩ <;> rfl
/-- A frame as one number, byte 0 most significant (spec/opcode_table.json). -/
theorem test_decodeTableWord :
    decodeTableWord 64 0x640300150002DC3A = some (.fc3Request 0x64 0x0015 2 0x3ADC) ∧
    decodeTableWord 36 0x413880000 = some (.setMotorSpeed 5000 0) ∧
    decodeTableWord 40 0x648302D0EE = some (.exceptionResponseFc3 0x64 2 0xEED0) := by
  refine ⟨?_, ?_, ?_⟩ <;> rfl

/-! ## Commands -/

/-- V74: accepted at address 247. -/
theorem test_initMaster_accepted :
    after (exec (.initMaster 0 0) (configured 247)) (fun s => (s.resultWord, s.statusWord, s.trace)) =
      some (0x80000000, 0x85, [.dir .low]) := by decide
/-- V73: refused at 248; STATUS is untouched. -/
theorem test_initMaster_refused :
    after (exec (.initMaster 0 0) (configured 248)) (fun s => (s.statusWord, s.trace, s.replies)) =
      some (0x80, [], [.refused]) := by decide
/-- V79. -/
theorem test_readHoldingRegisters_accepted :
    after (exec (.readHoldingRegisters 0x0015 125) booted) (fun s => (latches s, s.statusWord)) =
      some ((1, 3, 0x0015, 125), 0x13) := by decide
/-- V78. -/
theorem test_readHoldingRegisters_refused :
    after (exec (.readHoldingRegisters 0x0015 126) booted) (fun s => (s.statusWord, s.replies)) =
      some (0x85, [.refused]) := by decide
/-- P3 step 5. -/
theorem test_writeSingleRegister :
    after (exec (.writeSingleRegister 0x0001 3000) booted) (fun s => (latches s, s.resultWord)) =
      some ((2, 6, 0x0001, 3000), 0) := by decide
/-- P1 step 4. -/
theorem test_readMotorTelemetry :
    after (exec (.readMotorTelemetry 0xFFFF 0xFFFF) booted) (fun s => (latches s, s.statusWord)) =
      some ((3, 3, 0x0015, 2), 0x13) := by decide
/-- V75. -/
theorem test_readMotorTelemetry_refused :
    after (exec (.readMotorTelemetry 0 0) (configured 0x64)) State.replies = some [.refused] := by decide
/-- V55, V52. -/
theorem test_setMotorSpeed :
    after (exec (.setMotorSpeed 5000 0) booted) latches = some (4, 6, 0x0001, 3000) ∧
    after (exec (.setMotorSpeed 2999 0) booted) latches = some (4, 6, 0x0001, 2999) := by decide
/-- V85. -/
theorem test_setMotorEnable :
    after (exec (.setMotorEnable 1 0) { booted with params := { booted.params with mapEnable := some 2, valEnableT := 1 } })
      latches = some (5, 6, 2, 1) := by decide
/-- V81. -/
theorem test_setMotorEnable_refused : after (exec (.setMotorEnable 1 0) booted) State.replies = some [.refused] := by decide
/-- R108: bit 0 of A alone chooses. -/
theorem test_setMotorDirection :
    after (exec (.setMotorDirection 0xFFFE 0)
      { booted with params := { booted.params with mapDirection := some 3, valDirectionT := 1, valDirectionF := 7 } })
      latches = some (6, 6, 3, 7) := by decide
/-- R109. -/
theorem test_setMotorBrake :
    after (exec (.setMotorBrake 0x0003 0)
      { booted with params := { booted.params with mapBrake := some 4, valBrakeT := 9, valBrakeF := 7 } })
      latches = some (7, 6, 4, 9) := by decide
/-- V80. -/
theorem test_reservedOp : after (exec (.reservedOp 0 0 0) booted) State.replies = some [.refused] := by decide

/-! ## Request frames -/

/-- P1 step 4b: the bytes in order; STATUS after it. -/
theorem test_fc3Request :
    after (exec (.fc3Request 0x64 0x0015 2 0x3ADC)
      { inFlight .transmit 3 3 0x0015 2 with dir := .high, env := { writes := [.ok], flushes := 0, receive := [] } })
      (fun s => (s.trace, s.statusWord)) =
      some ([.tx 0x64, .tx 0x03, .tx 0x00, .tx 0x15, .tx 0x00, .tx 0x02, .tx 0xDC, .tx 0x3A], 0x3B) := by decide
/-- P3 step 4: a fault after 3 bytes. -/
theorem test_fc6Request_fault :
    after (exec (.fc6Request 0x64 0x0001 1000 0x41D1)
      { inFlight .transmit 4 6 0x0001 1000 with
        dir := .high, env := { writes := [.fault 3], flushes := 0, receive := [] } })
      (fun s => (s.trace, s.txErr, s.state, s.dir)) =
      some ([.tx 0x64, .tx 0x06, .tx 0x00, .txFault, .dir .low], true, .receive, .low) := by decide

/-! ## Received frames -/

/-- V34. -/
theorem test_fc3Response :
    after (exec (.fc3Response 0x64 4 [1200, 850] 0xEF4E) (inFlight .validate 3 3 0x0015 2))
      (fun s => (s.resultWord, s.payload, s.telemetry)) =
      some (0x80020030, [1200, 850], some { rpm := 1200, current := 850 }) := by decide
/-- V33. -/
theorem test_fc3Response_damaged :
    after (exec (.fc3Response 0x64 4 [1201, 850] 0xEF4E) (inFlight .validate 3 3 0x0015 2))
      (fun s => (s.resultWord, s.crc, s.transactionResult)) =
      some (0x80000033, 0x2F1F, some (.failure .crcMismatch)) := by decide
/-- V60. -/
theorem test_fc6Response :
    after (exec (.fc6Response 0x64 0x0001 3000 0xBDD6) (inFlight .validate 2 6 0x0001 3000)) State.resultWord =
      some 0x80000020 := by decide
/-- V62. -/
theorem test_fc6Response_address :
    after (exec (.fc6Response 0x64 0x0002 3000 0xBD26) (inFlight .validate 2 6 0x0001 3000)) State.resultWord =
      some 0x80000025 := by decide
/-- V36. -/
theorem test_exceptionResponseFc3 :
    after (exec (.exceptionResponseFc3 0x64 2 0xEED0) (inFlight .validate 3 3 0x0015 2)) State.resultWord =
      some 0x80000234 := by decide
/-- V37: the CRC decides first. -/
theorem test_exceptionResponseFc3_damaged :
    after (exec (.exceptionResponseFc3 0x64 2 0xEFD0) (inFlight .validate 3 3 0x0015 2)) State.resultWord =
      some 0x80000033 := by decide
/-- V63. -/
theorem test_exceptionResponseFc6 :
    after (exec (.exceptionResponseFc6 0x64 3 0x7E12) (inFlight .validate 2 6 0x0001 3000)) State.resultWord =
      some 0x80000324 := by decide
/-- V40. -/
theorem test_otherFunctionByte :
    after (exec (.otherFunctionByte 0x64 0x04 [0x04, 0x04, 0xB0, 0x03, 0x52, 0x4F, 0x58]) (inFlight .validate 3 3 0x0015 2))
      State.resultWord = some 0x80000035 := by decide
/-- V66. -/
theorem test_otherFunctionByte_exception :
    after (exec (.otherFunctionByte 0x64 0x83 [0x02, 0xD0, 0xEE]) (inFlight .validate 2 6 0x0001 3000)) State.resultWord =
      some 0x80000025 := by decide

/-! ## One step of the machine -/

/-- P3 step 3: TIMEOUT with 4 of 9 bytes; ERROR_REPORTED is merged with IDLE (log entry 15). -/
theorem test_step_timeout :
    after (step { inFlight .awaitResponse 3 3 0x0015 2 with
      rxcnt := 4, rxexp := 9, window := true, env := { writes := [], flushes := 0, receive := [.timeout] } })
      (fun s => (s.resultWord, s.state, s.trace)) = some (0x80000032, .idle, [.timeout]) := by decide
/-- P4 step 1: the second byte fixes the expected length. -/
theorem test_step_second_byte :
    after (step { inFlight .awaitResponse 3 3 0x0015 2 with
      rxcnt := 1, window := true, env := { writes := [], flushes := 0, receive := [.byte 0x03] } })
      (fun s => (s.rxcnt, s.rxexp, s.state)) = some (2, 9, .awaitResponse) := by decide
/-- V84: a write with INIT = 1 is ignored. -/
theorem test_step_write_ignored :
    after (step { booted with host := [.writeReg 1 0x0100] }) (fun s => s.cfg.mapRpm) = some 0x0015 := by decide
/-- R23: register 16 is STATUS. -/
theorem test_step_read_status :
    after (step { booted with host := [.readReg 16] }) State.replies = some [.data 16 0x85] := by decide
/-- R240: reset clears INIT and DONE. -/
theorem test_step_reset :
    after (step { booted with host := [.reset 0] }) (fun s => (s.statusWord, s.resultWord)) = some (0x80, 0) := by decide
/-- A word placed after reset runs as the first instruction (log entry 10). -/
theorem test_withFetchWord :
    after (step (State.reset.withFetchWord 72 0x64030404B003524EEF)) (fun s => (s.state, s.payload)) =
      some (.idle, [1200, 850]) := by decide


/-! ## Witnesses: states and operands that meet an obligation's hypotheses -/

/-- A request of the P1 transaction waiting for its response, as the invariant allows it. -/
def awaiting (cnt expected : BitVec 8) (events : List ReceiveEvent) : State :=
  { inFlight .awaitResponse 3 3 0x0015 2 with
    rxbuf := Vector.replicate 255 0x03
    rxcnt := cnt, rxexp := expected, window := true, env := { writes := [], flushes := 0, receive := events } }

/-- The state after BUILD_FRAME was entered, with an environment that answers. -/
def building (txo : WriteOutcome) (rx : List Byte) (host : List Action) : State :=
  { inFlight .buildFrame 3 3 0x0015 2 with
    host := host, env := { writes := [txo], flushes := 1, receive := receiveScript 3 2 rx } }

/-- The echoing slave of E3, empty. -/
def slave : Slave := { addr := 0x64, cells := [] }

/-- The host and the environment of E3 for one address and value. -/
def writeThenRead (a v : Word) : State :=
  { booted with
    host := [.command (commandWord 2 a v), .awaitReady, .command (commandWord 1 a 1), .awaitReady]
    env := { writes := [.ok, .ok], flushes := 2
             receive := (slave.respond (encodeRequest 0x64 6 a v)).2.map .byte ++
               ((slave.respond (encodeRequest 0x64 6 a v)).1.respond (encodeRequest 0x64 3 a 1)).2.map .byte } }

/-- CrcTableFormAgrees: both ends of the table. -/
theorem witness_CrcTableFormAgrees : 0 < 256 ∧ 255 < 256 := by decide
/-- CrcResidueIsZero: the shortest frame, correct and damaged. -/
theorem witness_CrcResidueIsZero :
    2 ≤ ([0xFF, 0xFF] : List Byte).length ∧ crcOk [0xFF, 0xFF] = true ∧ crcOk [0xFF, 0xFE] = false := by decide
/-- CrcIsAffine. -/
theorem witness_CrcIsAffine : ([0x64, 0x03] : List Byte).length = ([0x01, 0xFF] : List Byte).length := by decide
/-- SingleBitErrorIsCrcMismatch: the shortest response, its first bit and its last. -/
theorem witness_SingleBitErrorIsCrcMismatch :
    let f : List Byte := [0x64, 0x83, 0x02, 0xD0, 0xEE]
    5 ≤ f.length ∧ crcOk f = true ∧ 0 < f.length ∧ 0 < 8 ∧ 4 < f.length ∧ 7 < 8 := by decide
/-- DecodeEncodeAgree: a received frame of each bound of R75, and a frame of the other function code. -/
theorem witness_DecodeEncodeAgree :
    (Instr.fc3Response 0x64 2 [3000] 0).wellFormed = true ∧ (Instr.fc3Response 0x64 2 [3000] 0).receivedUnder 3 = true ∧
    (Instr.fc3Response 0x64 250 (List.replicate 125 0) 0).wellFormed = true ∧
    (Instr.otherFunctionByte 0x64 0x86 [2, 0, 0]).wellFormed = true ∧
    (Instr.otherFunctionByte 0x64 0x86 [2, 0, 0]).receivedUnder 3 = true := by decide
/-- InitializeAcceptedOrRefused, accepted: both ends of the address range. -/
theorem witness_InitializeAccepted :
    ((configured 1).state = .idle ∧ (configured 1).init = false ∧ 1 ≤ (configured 1).cfg.slaveAddr.toNat ∧
      (configured 1).cfg.slaveAddr.toNat ≤ 247 ∧ (configured 1).cfg.wrPmax = true ∧ (configured 1).cfg.wrTimeout = true) ∧
    ((configured 247).state = .idle ∧ (configured 247).init = false ∧ 1 ≤ (configured 247).cfg.slaveAddr.toNat ∧
      (configured 247).cfg.slaveAddr.toNat ≤ 247 ∧ (configured 247).cfg.wrPmax = true ∧
      (configured 247).cfg.wrTimeout = true) := by decide
/-- InitializeAcceptedOrRefused, refused: each ground. -/
theorem witness_InitializeRefused :
    (inFlight .transmit 1 3 0 1).state ≠ .idle ∧ booted.init = true ∧ (configured 0).cfg.slaveAddr.toNat = 0 ∧
    248 ≤ (configured 248).cfg.slaveAddr.toNat ∧ State.reset.cfg.wrPmax = false ∧ State.reset.cfg.wrTimeout = false := by
  decide
/-- ReadHoldingRegistersAccepted: both ends of the count; also the other accepted commands. -/
theorem witness_ReadHoldingRegistersAccepted :
    booted.state = .idle ∧ booted.init = true ∧ 1 ≤ (1 : Word).toNat ∧ (1 : Word).toNat ≤ 125 ∧
    1 ≤ (125 : Word).toNat ∧ (125 : Word).toNat ≤ 125 := by decide
/-- WriteSingleRegisterAccepted, ReadMotorTelemetryAccepted, SetMotorSpeedAccepted, TransmittedSpeedIsClamped. -/
theorem witness_CommandAccepted : booted.state = .idle ∧ booted.init = true ∧ booted.host = [] := by decide
/-- BooleanMotorCommandsAccepted: each parameter present. -/
theorem witness_BooleanMotorCommandsAccepted :
    let s := { booted with
      params := { booted.params with mapEnable := some 2, mapDirection := some 2, mapBrake := some 2 } }
    s.state = .idle ∧ s.init = true ∧ s.params.mapEnable = some 2 ∧ s.params.mapDirection = some 2 ∧
    s.params.mapBrake = some 2 := by decide
/-- IllFormedOrBusyCommandRefused: each ground at the ends of its range. -/
theorem witness_IllFormedOrBusyCommandRefused :
    (inFlight .validate 1 3 0 1).state ≠ .idle ∧
    8 ≤ (0x8_0000_0000 : BitVec 36).toNat / 2 ^ 32 ∧ 8 ≤ (0xF_FFFF_FFFF : BitVec 36).toNat / 2 ^ 32 ∧
    (0x1_0015_0000 : BitVec 36).toNat / 2 ^ 32 = 1 ∧ (0x1_0015_0000 : BitVec 36).toNat % 2 ^ 16 = 0 ∧
    125 < (0x1_0015_007E : BitVec 36).toNat % 2 ^ 16 ∧
    (0x5_0001_0000 : BitVec 36).toNat / 2 ^ 32 = 5 ∧ booted.params.mapEnable = none ∧
    (0x6_0001_0000 : BitVec 36).toNat / 2 ^ 32 = 6 ∧ booted.params.mapDirection = none ∧
    (0x7_0001_0000 : BitVec 36).toNat / 2 ^ 32 = 7 ∧ booted.params.mapBrake = none ∧
    (0x0_0000_0000 : BitVec 36).toNat / 2 ^ 32 = 0 ∧ booted.init = true ∧ (configured 0).cfg.slaveAddr.toNat = 0 ∧
    247 < (configured 248).cfg.slaveAddr.toNat ∧ State.reset.cfg.wrPmax = false ∧ State.reset.cfg.wrTimeout = false ∧
    (0x3_0000_0000 : BitVec 36).toNat / 2 ^ 32 ≠ 0 ∧ State.reset.init = false := by decide
/-- IgnoredOperandBitsHaveNoEffect: operands that differ and agree in bit 0. -/
theorem witness_IgnoredOperandBits : (0xFFFF : Word).toNat % 2 = (0x0001 : Word).toNat % 2 := by decide
/-- WriteAlwaysReturns: a request frame in TRANSMIT, with no outcome listed and with one. -/
theorem witness_WriteAlwaysReturns :
    encode (.fc3Request 0x64 0x0015 2 0x3ADC) = .request [0x64, 0x03, 0x00, 0x15, 0x00, 0x02, 0xDC, 0x3A] ∧
    (inFlight .transmit 3 3 0x0015 2).state = .transmit ∧ (inFlight .transmit 3 3 0x0015 2).env.writes = [] ∧
    ({ inFlight .transmit 3 3 0x0015 2 with env := { writes := [.fault 8], flushes := 0, receive := [] } }).state =
      .transmit := by decide
/-- RequestFrameTransmitted, RequestFrameTransmitFault: both ends of the number of bytes. -/
theorem witness_RequestFrameTransmitted :
    let s (o : WriteOutcome) : State :=
      { inFlight .transmit 3 3 0x0015 2 with env := { writes := [o], flushes := 0, receive := [] } }
    (s .ok).state = .transmit ∧ (s .ok).env.writes = [.ok] ∧ (s (.fault 0)).env.writes = [.fault 0] ∧
    (s (.fault 8)).env.writes = [.fault 8] := by decide
/-- ReadResponseDecoded: the smallest and the largest response. -/
theorem witness_ReadResponseDecoded :
    ((inFlight .validate 1 3 0 1).state = .validate ∧ (inFlight .validate 1 3 0 1).req.fc = 3 ∧
      (inFlight .validate 1 3 0 1).req.b.toNat = ([3000] : List Word).length) ∧
    (inFlight .validate 1 3 0 125).req.b.toNat = (List.replicate 125 (0 : Word)).length ∧
    (List.replicate 125 (0 : Word)).length ≤ 125 := by decide
/-- DamagedFrameIsCrcMismatch: V33. -/
theorem witness_DamagedFrameIsCrcMismatch :
    encode (.fc3Response 0x64 4 [1201, 850] 0xEF4E) = .response [0x64, 0x03, 0x04, 0x04, 0xB1, 0x03, 0x52, 0x4E, 0xEF] ∧
    (inFlight .validate 3 3 0x0015 2).state = .validate ∧
    crcOk [0x64, 0x03, 0x04, 0x04, 0xB1, 0x03, 0x52, 0x4E, 0xEF] = false := by decide
/-- WriteEchoJudged: a request the echo matches, and one whose value differs. -/
theorem witness_WriteEchoJudged :
    (inFlight .validate 2 6 1 3000).state = .validate ∧ (inFlight .validate 2 6 1 3000).req.fc = 6 ∧
    (3000 : Word) = (inFlight .validate 2 6 1 3000).req.b ∧ (3001 : Word) ≠ (inFlight .validate 2 6 1 3000).req.b := by
  decide
/-- ExceptionResponseReported: both function codes. -/
theorem witness_ExceptionResponseReported :
    (inFlight .validate 3 3 0x0015 2).state = .validate ∧ (inFlight .validate 3 3 0x0015 2).req.fc = 3 ∧
    (inFlight .validate 2 6 1 3000).state = .validate ∧ (inFlight .validate 2 6 1 3000).req.fc = 6 := by decide
/-- OtherFunctionByteIsEchoMismatch: V40. -/
theorem witness_OtherFunctionByteIsEchoMismatch :
    let s := inFlight .validate 3 3 0x0015 2
    s.state = .validate ∧ (0x04 : Byte) ≠ s.req.fc ∧ (0x04 : Byte) ≠ s.req.fc ||| 0x80 ∧
    crcOk [0x64, 0x04, 0x04, 0x04, 0xB0, 0x03, 0x52, 0x4F, 0x58] = true := by decide
/-- ForeignClassIsEchoMismatch: V66, the exception response to a read under a write. -/
theorem witness_ForeignClassIsEchoMismatch :
    let s := inFlight .validate 2 6 1 3000
    let f : List Byte := [0x64, 0x83, 0x02, 0xD0, 0xEE]
    encode (.exceptionResponseFc3 0x64 2 0xEED0) = .response f ∧ s.state = .validate ∧ s.req.fc = 6 ∧
    (Instr.exceptionResponseFc3 0x64 2 0xEED0).receivedUnder s.req.fc = false ∧ crcOk f = true ∧
    ∀ slave function rest, Instr.exceptionResponseFc3 0x64 2 0xEED0 ≠ .otherFunctionByte slave function rest := by
  refine ⟨by decide, by decide, by decide, by decide, by decide, ?_⟩
  intro _ _ _ h
  cases h
/-- FramesRunInTheirStateOnly: a request frame in IDLE and a received frame in IDLE. -/
theorem witness_FramesRunInTheirStateOnly :
    encode (.fc3Request 0x64 0x0015 2 0x3ADC) = .request [0x64, 0x03, 0x00, 0x15, 0x00, 0x02, 0xDC, 0x3A] ∧
    booted.state ≠ .transmit ∧
    encode (.exceptionResponseFc3 0x64 2 0xEED0) = .response [0x64, 0x83, 0x02, 0xD0, 0xEE] ∧ booted.state ≠ .validate := by
  decide
/-- BuildFrameStep, FlushedLeadsToReceive, ReceiveStep (both cases), ErrorReportedReturns. -/
theorem witness_SequencerSteps :
    ((inFlight .buildFrame 3 3 0x0015 2).host = [] ∧ (inFlight .buildFrame 3 3 0x0015 2).state = .buildFrame) ∧
    (let s := { inFlight .flushTransmit 3 3 0x0015 2 with env := { writes := [], flushes := 1, receive := [] } }
     s.host = [] ∧ s.state = .flushTransmit ∧ s.env.flushes = 0 + 1) ∧
    ((inFlight .receive 3 3 0x0015 2).host = [] ∧ (inFlight .receive 3 3 0x0015 2).state = .receive ∧
     (inFlight .receive 3 3 0x0015 2).txErr = false ∧ ({ inFlight .receive 3 3 0x0015 2 with txErr := true }).txErr = true) ∧
    (inFlight .errorReported 3 3 0x0015 2).state = .errorReported := by decide
/-- The states of `awaiting` that the next witnesses use meet the invariant: no byte yet, one byte, all but one. -/
theorem awaiting_inv (events : List ReceiveEvent) :
    (awaiting 0 0 events).Inv ∧ (awaiting 1 0 events).Inv ∧ (awaiting 8 9 events).Inv := by
  refine ⟨?_, ?_, ?_⟩ <;> constructor <;> simp only [awaiting, inFlight] <;>
    first | decide | (intro h; rcases h with h | h <;> cases h)
/-- ResponseByteStored: the first byte, the second and the last. -/
theorem witness_ResponseByteStored : ∀ s ∈ [awaiting 0 0 [.byte 3], awaiting 1 0 [.byte 3], awaiting 8 9 [.byte 3]],
    s.Inv ∧ s.host = [] ∧ s.state = .awaitResponse ∧ s.env.receive = [.byte 3] := by
  have h := awaiting_inv [.byte 3]
  simp only [List.mem_cons, List.not_mem_nil, or_false, forall_eq_or_imp, forall_eq]
  exact ⟨⟨h.1, rfl, rfl, rfl⟩, ⟨h.2.1, rfl, rfl, rfl⟩, ⟨h.2.2, rfl, rfl, rfl⟩⟩
/-- TimeoutReported: before RXEXP is known, and one byte short; TIMEOUT in the list, and an empty list. -/
theorem witness_TimeoutReported :
    ((awaiting 1 0 [.timeout]).host = [] ∧ (awaiting 1 0 [.timeout]).state = .awaitResponse ∧
      (awaiting 1 0 [.timeout]).rxcnt.toNat < 2 ∧ (awaiting 1 0 [.timeout]).env.receive = [.timeout]) ∧
    ((awaiting 8 9 []).host = [] ∧ (awaiting 8 9 []).state = .awaitResponse ∧
      (awaiting 8 9 []).rxcnt ≠ (awaiting 8 9 []).rxexp ∧ (awaiting 8 9 []).env.receive = []) := by decide
/-- WaitingChangesNothing: each state that waits. -/
theorem witness_WaitingChangesNothing :
    (booted.host = [] ∧ booted.state = .idle) ∧
    ((inFlight .flushTransmit 3 3 0x0015 2).host = [] ∧ (inFlight .flushTransmit 3 3 0x0015 2).state = .flushTransmit ∧
      (inFlight .flushTransmit 3 3 0x0015 2).env.flushes = 0) := by decide
/-- HostRegisterWrites: ignored because of INIT, ignored by number, and stored, at both ends. -/
theorem witness_HostRegisterWrites :
    ({ booted with host := [.writeReg 0 1] }).host = [.writeReg 0 1] ∧ booted.init = true ∧
    ({ State.reset with host := [.writeReg 6 1] }).host = [.writeReg 6 1] ∧ 6 ≤ 6 ∧ State.reset.init = false ∧
    ({ State.reset with host := [.writeReg 5 0x1_0000_0000] }).host = [.writeReg 5 0x1_0000_0000] := by decide
/-- HostRegisterReads: every clause at the ends of its range; no number falls under two of them. -/
theorem witness_HostRegisterReads :
    ({ booted with host := [.readReg 16] }).host = [.readReg 16] ∧ booted.cfg.wrPmax = true ∧ booted.cfg.wrTimeout = true ∧
    booted.result.done = true ∧ State.reset.result.done = false ∧
    (let s := { booted with result := { booted.result with rop := 1, rcount := 125 } }
     s.result.done = true ∧ s.result.kind = .success ∧ (124 : Fin 125).val < s.result.rcount.toNat ∧
       32 + (124 : Fin 125).val = 156) ∧
    (6 ≤ 15 ∧ 18 ≤ 31 ∧ 157 ≤ 157) := by decide
/-- TelemetryView: the end state of P1. -/
theorem witness_TelemetryView :
    ({ booted with result := { done := true, kind := .success, rop := 3, excCode := 0, rcount := 2 } }).telemetry =
      some { rpm := 0, current := 0 } ∧ booted.telemetry = none := by decide
/-- ResetInputFromAnyState: in TRANSMIT with bytes sent, and elsewhere. -/
theorem witness_ResetInputFromAnyState :
    ({ inFlight .transmit 3 3 0x0015 2 with host := [.reset 8] }).host = [.reset 8] ∧
    ({ booted with host := [.reset 0] }).host = [.reset 0] := by decide
/-- OnlyBrokenPreconditionsFault. -/
theorem witness_OnlyBrokenPreconditionsFault :
    ({ booted with host := [.violation .secondMaster] }).host = [.violation .secondMaster] ∧
    (match step { booted with host := [.violation .secondMaster] } with
      | .fault r => some r
      | .next _ => none
      | .refused _ => none) = some (.preconditionBroken .secondMaster) := by decide
/-- StepRunsDecodedInstruction: a command, a request frame and a received frame. -/
theorem witness_StepRunsDecodedInstruction :
    (({ booted with host := [.command 0x3_0000_0000] }).host = [.command 0x3_0000_0000] ∧
      decode 0 (.command 0x3_0000_0000) = .ok (.readMotorTelemetry 0 0)) ∧
    (let s := { inFlight .transmit 3 3 0x0015 2 with
       txbuf := storeFrom (Vector.replicate 8 0) 0 [0x64, 0x03, 0x00, 0x15, 0x00, 0x02, 0xDC, 0x3A] }
     s.host = [] ∧ s.state = .transmit ∧
       decode s.req.fc (.request s.txbuf.toList) = .ok (.fc3Request 0x64 0x0015 2 0x3ADC)) ∧
    (let s := { inFlight .validate 3 3 0x0015 2 with
       rxbuf := storeFrom (Vector.replicate 255 0) 0 [0x64, 0x83, 0x02, 0xD0, 0xEE], rxexp := 5 }
     s.host = [] ∧ s.state = .validate ∧
       decode s.req.fc (.response (s.rxbuf.toList.take s.rxexp.toNat)) = .ok (.exceptionResponseFc3 0x64 2 0xEED0)) := by
  refine ⟨⟨?_, ?_⟩, ⟨?_, ?_, ?_⟩, ?_, ?_, ?_⟩ <;> decide
/-- HostLetsTheBlockRun: each action, with a step of the block that answers a next state. -/
theorem witness_HostLetsTheBlockRun :
    (∃ t, step { inFlight .buildFrame 3 3 0x0015 2 with host := [] } = .next t) ∧
    ({ inFlight .buildFrame 3 3 0x0015 2 with host := [.letRun] }).host = [.letRun] ∧
    ({ inFlight .buildFrame 3 3 0x0015 2 with host := [.awaitReady] }).host = [.awaitReady] ∧
    (inFlight .buildFrame 3 3 0x0015 2).state ≠ .idle ∧
    ({ booted with host := [.awaitReady] }).host = [.awaitReady] ∧ booted.state = .idle :=
  ⟨next_of_after (by decide), rfl, rfl, by decide, rfl, rfl⟩
/-- InvariantKeptByEveryStep, InvariantStatesNeverRefuse. -/
theorem witness_InvariantKeptByEveryStep :
    (awaiting 1 0 [.byte 3]).Inv ∧ ∃ t, step (awaiting 1 0 [.byte 3]) = .next t :=
  ⟨(awaiting_inv _).2.1, next_of_after (by decide)⟩
/-- HalfDuplexOrderKept: with a byte to receive. -/
theorem witness_HalfDuplexOrderKept :
    ({ awaiting 0 0 [.byte 3] with trace := [.dir .high, .flushed, .dir .low] }).HalfDuplex ∧
    ∃ t, step { awaiting 0 0 [.byte 3] with trace := [.dir .high, .flushed, .dir .low] } = .next t := by
  refine ⟨?_, next_of_after (by decide)⟩
  constructor <;> decide
/-- OnlyListedTransitions, ConfigurationFrozenOnceInitialized, RequestLatchesConstantInFlight, DirectionLineWriters,
ResultWrittenOnlyAtTheEnd: the step of BUILD_FRAME. -/
theorem witness_WholeMachineRules :
    (inFlight .buildFrame 3 3 0x0015 2).init = true ∧ (inFlight .buildFrame 3 3 0x0015 2).state ≠ .idle ∧
    (∀ k later, (inFlight .buildFrame 3 3 0x0015 2).host ≠ .reset k :: later) ∧
    ∃ t, step (inFlight .buildFrame 3 3 0x0015 2) = .next t := by
  refine ⟨rfl, by decide, ?_, next_of_after (by decide)⟩
  intro _ _ h
  cases h
/-- ResultWrittenOnlyAtTheEnd: a step of each of the five kinds (BUILD_FRAME, a command, INITIALIZE, a failure, a Success). -/
theorem witness_ResultWrittenOnlyAtTheEnd :
    after (step (inFlight .buildFrame 3 3 0x0015 2)) State.result = some ResultReg.cleared ∧
    after (step { booted with host := [.command 0x3_0000_0000] }) (fun s => (s.state, s.result.done)) =
      some (.buildFrame, false) ∧
    after (step { configured 1 with host := [.command 0] }) (fun s => (s.state, s.init, s.result.done)) =
      some (.idle, true, true) ∧
    after (step (awaiting 1 0 [])) (fun s => (s.state, s.result.kind)) = some (.idle, .timeout) ∧
    after (step (State.reset.withFetchWord 72 0x64030404B003524EEF)) (fun s => (s.result.kind, s.result.rcount)) =
      some (.success, 2) := by
  refine ⟨?_, ?_, ?_, ?_, ?_⟩ <;> decide
/-- DirectionLineWriters: a line that goes HIGH and one that goes LOW. -/
theorem witness_DirectionLineWriters :
    (inFlight .buildFrame 3 3 0x0015 2).dir = .low ∧
    after (step (inFlight .buildFrame 3 3 0x0015 2)) State.dir = some .high ∧
    after (step { inFlight .flushTransmit 3 3 0x0015 2 with
      dir := .high, env := { writes := [], flushes := 1, receive := [] } }) State.dir = some .low := by decide
/-- TransactionRunsToItsOutcome: a good response, none, and a transmit fault; the host idle or waiting. -/
theorem witness_TransactionRunsToItsOutcome : ∀ txo rx, ∀ host ∈ [[], [Action.awaitReady]],
    (building txo rx host).Inv ∧ (building txo rx host).hostWaits ∧ (building txo rx host).state = .buildFrame ∧
    (building txo rx host).env = {
      writes := txo :: []
      flushes := 0 + 1
      receive := receiveScript (building txo rx host).req.fc (building txo rx host).req.b rx ++ [] } := by
  intro txo rx host hh
  refine ⟨?_, ?_, rfl, ?_⟩
  · constructor <;> simp only [building, inFlight] <;>
      first | decide | (intro h; rcases h with h | h <;> cases h)
  · simp only [List.mem_cons, List.not_mem_nil, or_false] at hh
    rcases hh with rfl | rfl
    · exact .inl rfl
    · exact .inr ⟨[], rfl⟩
  · rw [List.append_nil]; rfl
/-- ResponseWindowBoundsTheWait: whatever the receive path shows. -/
theorem witness_ResponseWindowBoundsTheWait : ∀ events,
    (awaiting 1 0 events).Inv ∧ (awaiting 1 0 events).host = [] ∧ (awaiting 1 0 events).state = .awaitResponse :=
  fun _ => ⟨(awaiting_inv _).2.1, rfl, rfl⟩
/-- WriteThenReadReturnsTheValue: the instance of P2, address 0x0001, value 3000. -/
theorem witness_WriteThenReadReturnsTheValue :
    (writeThenRead 1 3000).Inv ∧ (writeThenRead 1 3000).state = .idle ∧ (writeThenRead 1 3000).init = true ∧
    slave.addr = (writeThenRead 1 3000).cfg.slaveAddr ∧ slave.cells.wf = true ∧
    (writeThenRead 1 3000).host =
      [.command (commandWord 2 1 3000), .awaitReady, .command (commandWord 1 1 1), .awaitReady] ∧
    (writeThenRead 1 3000).env = {
      writes := .ok :: .ok :: []
      flushes := 0 + 2
      receive := ((slave.respond (encodeRequest (writeThenRead 1 3000).cfg.slaveAddr 6 1 3000)).2.map .byte ++
        ((slave.respond (encodeRequest (writeThenRead 1 3000).cfg.slaveAddr 6 1 3000)).1.respond
          (encodeRequest (writeThenRead 1 3000).cfg.slaveAddr 3 1 1)).2.map .byte) ++ [] } := by
  refine ⟨?_, rfl, rfl, rfl, rfl, rfl, ?_⟩
  · constructor <;> simp only [writeThenRead] <;> decide
  · rw [List.append_nil]; rfl

end Sys2Proof.Tests
end

section
/-! SUPPORT. Who moves in a step, as one equation per head of the host's list (log entry 1); what the block's own step runs in
TRANSMIT and VALIDATE; and that the block's step neither reads the host's list nor changes it. -/

namespace Sys2Proof.Machine

/-! ## The step for each head of the host's list -/

theorem step_of_host_nil {s : State} (h : s.host = []) : step s = s.fetchBlock.outcome := by
  rw [step_eq, State.fetch, h]

theorem step_of_command {s : State} {w : BitVec 36} {later : List Action} (h : s.host = .command w :: later) :
    step s = exec (decodeCommand w) { s with host := later } := by
  rw [step_eq, State.fetch, h]; rfl

theorem step_of_letRun {s : State} {later : List Action} (h : s.host = .letRun :: later) :
    step s = ({ s with host := later } : State).fetchBlock.outcome := by
  rw [step_eq, State.fetch, h]

theorem step_of_awaitReady_busy {s : State} {later : List Action} (h : s.host = .awaitReady :: later)
    (busy : s.state ≠ .idle) : step s = s.fetchBlock.outcome := by
  rw [step_eq, State.fetch, h]
  simp [State.cmdReady, busy]

theorem step_of_awaitReady_idle {s : State} {later : List Action} (h : s.host = .awaitReady :: later)
    (idle : s.state = .idle) : step s = .next { s with host := later } := by
  rw [step_eq, State.fetch, h]
  simp [State.cmdReady, idle, Fetched.outcome]

/-! ## The block's own step -/

/-- TRANSMIT runs the frame in TXBUF (42_transaction_sequencer.md R124). -/
theorem State.fetchBlock_transmit {s : State} (h : s.state = .transmit) :
    s.fetchBlock = .ofDecoded s (decodeRequest s.txFrame) := by
  rw [State.fetchBlock, h]

/-- VALIDATE runs the frame in RXBUF[0..RXEXP] (42_transaction_sequencer.md R133). -/
theorem State.fetchBlock_validate {s : State} (h : s.state = .validate) :
    s.fetchBlock = .ofDecoded s (decodeResponse s.req.fc s.rxFrame) := by
  rw [State.fetchBlock, h]

/-- In every other state the sequencer takes that state's step (42_transaction_sequencer.md R120). -/
theorem State.fetchBlock_advance {s : State} (notTransmit : s.state ≠ .transmit) (notValidate : s.state ≠ .validate) :
    s.fetchBlock = .done s.advance := by
  cases hs : s.state with
  | transmit => exact absurd hs notTransmit
  | validate => exact absurd hs notValidate
  | _ => rw [State.fetchBlock, hs]

/-! ## The host's list is nothing to the block

Each operation of the block's step, run with another host's list, does the same and leaves that list. -/

/-- The state with another list of the host's actions. -/
def State.withHost (later : List Action) (s : State) : State := { s with host := later }

@[simp] theorem State.withHost_state (later : List Action) (s : State) : (s.withHost later).state = s.state := rfl
@[simp] theorem State.withHost_txErr (later : List Action) (s : State) : (s.withHost later).txErr = s.txErr := rfl
@[simp] theorem State.withHost_env (later : List Action) (s : State) : (s.withHost later).env = s.env := rfl
@[simp] theorem State.withHost_nextWrite (later : List Action) (s : State) :
    (s.withHost later).nextWrite = s.nextWrite := rfl
@[simp] theorem State.withHost_complete (later : List Action) (s : State) :
    (s.withHost later).complete = s.complete := rfl
@[simp] theorem State.withHost_incomplete (later : List Action) (s : State) :
    (s.withHost later).incomplete = s.incomplete := rfl

theorem State.writeBytes_withHost (f : List Byte) (later : List Action) (s : State) :
    (s.withHost later).writeBytes f = (s.writeBytes f).withHost later := by
  simp only [State.writeBytes, State.withHost_nextWrite]
  cases s.nextWrite <;> rfl

theorem State.conclude_withHost (r : TransactionResult) (later : List Action) (s : State) :
    (s.withHost later).conclude r = (s.conclude r).withHost later := by
  cases r <;> rfl

theorem State.buildFrame_withHost (later : List Action) (s : State) :
    (s.withHost later).buildFrame = s.buildFrame.withHost later := by
  simp only [State.buildFrame, State.crcFeed_eq]
  rfl

theorem State.flushWait_withHost (later : List Action) (s : State) :
    (s.withHost later).flushWait = s.flushWait.withHost later := by
  simp only [State.flushWait, State.withHost_env]
  cases s.env.flushes <;> rfl

theorem State.receiveTurn_withHost (later : List Action) (s : State) :
    (s.withHost later).receiveTurn = s.receiveTurn.withHost later := by
  unfold State.receiveTurn
  rw [State.withHost_txErr]
  cases s.txErr <;> rfl

theorem State.closeIfComplete_withHost (later : List Action) (s : State) :
    (s.withHost later).closeIfComplete = s.closeIfComplete.withHost later := by
  unfold State.closeIfComplete
  rw [State.withHost_complete]
  cases s.complete <;> rfl

theorem State.awaitTurn_withHost (later : List Action) (s : State) :
    (s.withHost later).awaitTurn = s.awaitTurn.withHost later := by
  unfold State.awaitTurn
  rw [State.withHost_complete, State.withHost_incomplete, State.withHost_env]
  cases s.complete with
  | true => exact s.closeIfComplete_withHost later
  | false =>
    cases s.env.receive with
    | nil => rfl
    | cons e rest =>
      cases e with
      | timeout => rfl
      | byte b =>
        cases s.incomplete with
        | true =>
          exact State.closeIfComplete_withHost later
            (State.storeByte b { s with env := { s.env with receive := rest } })
        | false => rfl

theorem State.advance_withHost (later : List Action) (s : State) :
    (s.withHost later).advance = s.advance.withHost later := by
  simp only [State.advance, State.withHost_state]
  cases s.state with
  | buildFrame => exact s.buildFrame_withHost later
  | flushTransmit => exact s.flushWait_withHost later
  | receive => exact s.receiveTurn_withHost later
  | awaitResponse => exact s.awaitTurn_withHost later
  | _ => rfl

theorem exec_withHost_of_request {i : Instr} {f : List Byte} {s t : State} (hf : encode i = .request f)
    (h : exec i s = .next t) (later : List Action) : exec i (s.withHost later) = .next (t.withHost later) := by
  rw [exec_request _ hf] at h ⊢
  rcases State.transmitFrame_cases h with ⟨at_, rfl⟩ | ⟨off, rfl⟩
  · rw [State.transmitFrame, State.withHost_state, if_pos at_, State.writeBytes_withHost]
  · rw [State.transmitFrame, State.withHost_state, if_neg off]

theorem exec_withHost_of_response {i : Instr} {f : List Byte} {s t : State} (hf : encode i = .response f)
    (h : exec i s = .next t) (later : List Action) : exec i (s.withHost later) = .next (t.withHost later) := by
  rw [exec_response _ hf] at h ⊢
  rcases State.judgeFrame_cases h with ⟨at_, rfl⟩ | ⟨off, rfl⟩
  · rw [State.judgeFrame_validate (s := s.withHost later) at_, ← State.conclude_withHost]
    rfl
  · rw [State.judgeFrame, State.withHost_state, if_neg off]

/-- A frame that runs the same with another host's list is fetched and run the same. -/
theorem Fetched.ofDecoded_withHost {s t : State} {d : Except DecodeError Instr} {later : List Action}
    (runs : ∀ i, d = .ok i → exec i s = .next t → exec i (s.withHost later) = .next (t.withHost later))
    (h : (Fetched.ofDecoded s d).outcome = .next t) :
    (Fetched.ofDecoded (s.withHost later) d).outcome = .next (t.withHost later) := by
  cases d with
  | ok i => exact runs i rfl h
  | error e => cases h

/-- The block's step with another host's list (log entry 1). -/
theorem State.fetchBlock_withHost {s t : State} (h : s.fetchBlock.outcome = .next t) (later : List Action) :
    (s.withHost later).fetchBlock.outcome = .next (t.withHost later) := by
  by_cases tx : s.state = .transmit
  · rw [State.fetchBlock_transmit tx] at h
    rw [State.fetchBlock_transmit (s := s.withHost later) tx]
    exact Fetched.ofDecoded_withHost
      (fun _ hd ran => exec_withHost_of_request (encode_of_decodeRequest hd) ran later) h
  by_cases val : s.state = .validate
  · rw [State.fetchBlock_validate val] at h
    rw [State.fetchBlock_validate (s := s.withHost later) val]
    exact Fetched.ofDecoded_withHost
      (fun _ hd ran => exec_withHost_of_response (encode_of_decodeResponse hd) ran later) h
  rw [State.fetchBlock_advance tx val] at h
  rw [State.fetchBlock_advance (s := s.withHost later) tx val, State.advance_withHost]
  cases h
  rfl

/-! ## The obligations -/

/-- Settles O43: under `letRun`, and under `awaitReady` outside IDLE, the step is the block's own step, which does not depend on
the host's list. -/
theorem hostLetsTheBlockRun : Obligations.HostLetsTheBlockRun := by
  intro s later
  have alone {t : State} (h : step { s with host := [] } = .next t) (rest : List Action) :
      ({ s with host := rest } : State).fetchBlock.outcome = .next { t with host := rest } := by
    rw [step_of_host_nil rfl] at h
    exact State.fetchBlock_withHost h rest
  refine ⟨fun hs t h => ?_, fun hs busy t h => ?_, step_of_awaitReady_idle⟩
  · rw [step_of_letRun hs]
    exact alone h later
  · rw [step_of_awaitReady_busy hs busy]
    exact alone h s.host

/-- Settles O41: the instruction is fetched from the command port, from TXBUF in TRANSMIT and from RXBUF[0..RXEXP] in
VALIDATE. -/
theorem stepRunsDecodedInstruction : Obligations.StepRunsDecodedInstruction := by
  intro s i
  refine ⟨fun w later hs hd => ?_, fun hs tx hd => ?_, fun hs val hd => ?_⟩
  · have command : decodeCommand w = i := Except.ok.inj hd
    rw [step_of_command hs, command]
  · have frame : decodeRequest s.txFrame = .ok i := hd
    rw [step_of_host_nil hs, State.fetchBlock_transmit tx, frame]
    rfl
  · have frame : decodeResponse s.req.fc s.rxFrame = .ok i := hd
    rw [step_of_host_nil hs, State.fetchBlock_validate val, frame]
    rfl

end Sys2Proof.Machine
end

section
/-! SUPPORT. The state family (10_state.md): what the host port and each operation of the block leave unchanged, what a step
without reset can do, and the statements about registers, configuration, latches, line and result. -/

namespace Sys2Proof.Machine

/-! ## The host port -/

theorem step_of_writeReg {s : State} {n v : Nat} {later : List Action} (h : s.host = .writeReg n v :: later) :
    step s = .next (State.writeReg n v { s with host := later }) := by
  rw [step_eq, State.fetch, h]; rfl

theorem step_of_readReg {s : State} {n : Nat} {later : List Action} (h : s.host = .readReg n :: later) :
    step s = .next (State.readReg n { s with host := later }) := by
  rw [step_eq, State.fetch, h]; rfl

theorem step_of_reset {s : State} {sent : Fin 9} {later : List Action} (h : s.host = .reset sent :: later) :
    step s = .next (State.assertReset sent { s with host := later }) := by
  rw [step_eq, State.fetch, h]; rfl

/-- R23: a number of 6 or more is no configuration register. -/
theorem Cfg.write_eq_self {n : Nat} (width v : Nat) (c : Cfg) (h : 6 ≤ n) : c.write width n v = c := by
  unfold Cfg.write
  split
  case h_7 => rfl
  all_goals omega

/-- R12: a write takes effect in the configuration, and there only while INIT = 0. -/
theorem State.writeReg_eq (n v : Nat) (s : State) :
    s.writeReg n v =
      { s with cfg := if s.init then s.cfg else s.cfg.write s.params.timeoutWidth n v } := by
  unfold State.writeReg
  split <;> rfl

/-- Settles O35: the configuration registers are the numbers 0 to 5, writable exactly while INIT = 0. -/
theorem hostRegisterWrites : Obligations.HostRegisterWrites := by
  intro s n v later hs
  rw [step_of_writeReg hs, State.writeReg_eq]
  refine ⟨fun off => ?_, fun on => ?_⟩
  · rcases off with booted | none
    · simp [booted]
    · simp [Cfg.write_eq_self _ _ _ none]
  · simp only [on]
    refine ⟨?_, ?_, ?_, ?_, ?_, ?_⟩ <;> rintro rfl <;> rfl

/-! ### The composed words -/

/-- A bit vector put together from two, as a number. -/
theorem toNat_append_eq_add {m n : Nat} (x : BitVec m) (y : BitVec n) :
    (x ++ y).toNat = x.toNat * 2 ^ n + y.toNat := by
  rw [BitVec.toNat_append, Nat.shiftLeft_eq, Nat.mul_comm, Nat.two_pow_add_eq_or_of_lt y.isLt]

/-- STATUS as a number (R22). -/
theorem State.toNat_statusWord (s : State) :
    s.statusWord.toNat = (if s.state = .idle then 128 else 0) + s.state.code.toNat * 16 +
      (if s.dir = .high then 8 else 0) + (if s.result.done then 4 else 0) + (if s.state = .idle then 0 else 2) +
      (if s.init then 1 else 0) := by
  have line : s.dir.bit = decide (s.dir = .high) := by cases s.dir <;> rfl
  simp only [State.statusWord, State.cmdReady, State.busy, toNat_append_eq_add, BitVec.toNat_ofNat, BitVec.toNat_ofBool,
    line, Bool.toNat, Bool.cond_eq_ite, decide_eq_true_eq, ite_not]
  split_ifs <;> omega

/-- RESULT as a number while DONE = 1 (R25). -/
theorem State.toNat_resultWord {s : State} (done : s.result.done = true) :
    s.resultWord.toNat = 2 ^ 31 + s.result.rcount.toNat * 2 ^ 16 + s.result.excCode.toNat * 2 ^ 8 +
      s.result.rop.toNat * 2 ^ 4 + s.result.kind.code.toNat := by
  rw [State.resultWord, if_pos done]
  simp only [toNat_append_eq_add, BitVec.toNat_ofNat]
  omega

/-- R25: while DONE = 0 every field of RESULT reads as 0. -/
theorem State.resultWord_of_not_done {s : State} (notDone : s.result.done = false) : s.resultWord = 0 := by
  simp [State.resultWord, notDone]

/-! ### What a register read returns -/

/-- The registers 32 to 156 are RDATA (R26). -/
theorem State.regValue_rdata (s : State) (j : Fin 125) : s.regValue (32 + j.val) = s.rdataRead j.val := by
  unfold State.regValue
  split
  case h_9 => simp; omega
  all_goals omega

/-- R26: a valid word of RDATA is returned as it is. -/
theorem State.rdataRead_of_valid {s : State} {j : Fin 125} (valid : s.rdataValid j.val = true) :
    s.rdataRead j.val = s.rdata[j].toNat := by
  simp [State.rdataRead, valid]

/-- R23: a number that does not exist reads as 0. -/
theorem State.regValue_unmapped {n : Nat} (s : State) (h : (6 ≤ n ∧ n ≤ 15) ∨ (18 ≤ n ∧ n ≤ 31) ∨ 157 ≤ n) :
    s.regValue n = 0 := by
  unfold State.regValue
  split
  case h_9 => exact if_neg (by omega)
  all_goals omega

/-- Settles O36: the value read is that of the register map. -/
theorem hostRegisterReads : Obligations.HostRegisterReads := by
  intro s n later hs
  refine ⟨s.regValue n, step_of_readReg hs, ?_, ?_, ?_, ?_, ?_, ?_, ?_, ?_, ?_, ?_, s.regValue_unmapped⟩
  · rintro rfl; rfl
  · rintro rfl; rfl
  · rintro rfl; rfl
  · rintro rfl; rfl
  · rintro rfl written; exact if_pos written
  · rintro rfl written; exact if_pos written
  · rintro rfl; exact s.toNat_statusWord
  · rintro rfl done; exact State.toNat_resultWord done
  · rintro rfl notDone; exact congrArg BitVec.toNat (State.resultWord_of_not_done notDone)
  · rintro j rfl done success inCount
    rw [State.regValue_rdata]
    exact State.rdataRead_of_valid (by simp [State.rdataValid, done, success, inCount])

/-- Settles O37: the view is an `if` over the conditions of R27. -/
theorem telemetryView : Obligations.TelemetryView := by
  intro s m
  rw [State.telemetry]
  split
  case isTrue shown =>
    obtain ⟨done, success, rop, rcount⟩ := shown
    obtain ⟨rpm, current⟩ := m
    simp [done, success, rop, rcount, eq_comm]
  case isFalse hidden =>
    refine ⟨nofun, fun ⟨done, success, rop, rcount, _⟩ => absurd ⟨done, success, rop, rcount⟩ hidden⟩

/-- Settles O38: each register of the reset state is written out in the model. -/
theorem resetValues : Obligations.ResetValues := by
  unfold Obligations.ResetValues
  decide

end Sys2Proof.Machine
end

section
/-! SUPPORT. What each operation of the block leaves unchanged, what a step without reset can do, and the statements about who
writes the configuration, the latches, the line and the result (10_state.md R12, R13, R15, R16, R24, R28). -/

namespace Sys2Proof.Machine

/-- What INITIALIZE requires besides IDLE, one condition each (R71(d), R102). -/
theorem State.initializable_iff {s : State} : s.initializable = true ↔
    s.init = false ∧ Config.slaveAddrLegal s.cfg.slaveAddr = true ∧ s.cfg.wrPmax = true ∧ s.cfg.wrTimeout = true := by
  simp [State.initializable, and_assoc]

/-! ## What an operation of the block's step leaves unchanged -/

section Operations
variable (s : State)

@[simp] theorem State.writeBytes_cfg (f : List Byte) : (s.writeBytes f).cfg = s.cfg := by
  rcases s.writeBytes_cases f with ⟨-, e⟩ | ⟨k, -, e⟩ <;> rw [e] <;> rfl
@[simp] theorem State.writeBytes_init (f : List Byte) : (s.writeBytes f).init = s.init := by
  rcases s.writeBytes_cases f with ⟨-, e⟩ | ⟨k, -, e⟩ <;> rw [e] <;> rfl
@[simp] theorem State.writeBytes_req (f : List Byte) : (s.writeBytes f).req = s.req := by
  rcases s.writeBytes_cases f with ⟨-, e⟩ | ⟨k, -, e⟩ <;> rw [e] <;> rfl
@[simp] theorem State.writeBytes_result (f : List Byte) : (s.writeBytes f).result = s.result := by
  rcases s.writeBytes_cases f with ⟨-, e⟩ | ⟨k, -, e⟩ <;> rw [e] <;> rfl
@[simp] theorem State.writeBytes_rdata (f : List Byte) : (s.writeBytes f).rdata = s.rdata := by
  rcases s.writeBytes_cases f with ⟨-, e⟩ | ⟨k, -, e⟩ <;> rw [e] <;> rfl

@[simp] theorem State.conclude_cfg (r : TransactionResult) : (s.conclude r).cfg = s.cfg := by cases r <;> rfl
@[simp] theorem State.conclude_init (r : TransactionResult) : (s.conclude r).init = s.init := by cases r <;> rfl
@[simp] theorem State.conclude_req (r : TransactionResult) : (s.conclude r).req = s.req := by cases r <;> rfl
@[simp] theorem State.conclude_dir (r : TransactionResult) : (s.conclude r).dir = s.dir := by cases r <;> rfl

@[simp] theorem State.closeIfComplete_cfg : s.closeIfComplete.cfg = s.cfg := by
  unfold State.closeIfComplete; split <;> rfl
@[simp] theorem State.closeIfComplete_init : s.closeIfComplete.init = s.init := by
  unfold State.closeIfComplete; split <;> rfl
@[simp] theorem State.closeIfComplete_req : s.closeIfComplete.req = s.req := by
  unfold State.closeIfComplete; split <;> rfl
@[simp] theorem State.closeIfComplete_dir : s.closeIfComplete.dir = s.dir := by
  unfold State.closeIfComplete; split <;> rfl
@[simp] theorem State.closeIfComplete_result : s.closeIfComplete.result = s.result := by
  unfold State.closeIfComplete; split <;> rfl
@[simp] theorem State.closeIfComplete_rdata : s.closeIfComplete.rdata = s.rdata := by
  unfold State.closeIfComplete; split <;> rfl

@[simp] theorem State.storeByte_cfg (b : Byte) : (State.storeByte b s).cfg = s.cfg := rfl
@[simp] theorem State.storeByte_init (b : Byte) : (State.storeByte b s).init = s.init := rfl
@[simp] theorem State.storeByte_req (b : Byte) : (State.storeByte b s).req = s.req := rfl
@[simp] theorem State.storeByte_dir (b : Byte) : (State.storeByte b s).dir = s.dir := rfl
@[simp] theorem State.storeByte_result (b : Byte) : (State.storeByte b s).result = s.result := rfl
@[simp] theorem State.storeByte_rdata (b : Byte) : (State.storeByte b s).rdata = s.rdata := rfl

@[simp] theorem State.windowTimeout_cfg : s.windowTimeout.cfg = s.cfg := rfl
@[simp] theorem State.windowTimeout_init : s.windowTimeout.init = s.init := rfl
@[simp] theorem State.windowTimeout_req : s.windowTimeout.req = s.req := rfl
@[simp] theorem State.windowTimeout_dir : s.windowTimeout.dir = s.dir := rfl
@[simp] theorem State.windowTimeout_rdata : s.windowTimeout.rdata = s.rdata := rfl

end Operations

/-- The sequencer's own step writes no configuration register, not INIT and no request latch. -/
theorem AdvanceCase.keeps {s t : State} (h : AdvanceCase s t) : t.cfg = s.cfg ∧ t.init = s.init ∧ t.req = s.req := by
  cases h <;> simp

/-- The block's step with the sequencer's own steps told apart. -/
theorem BlockCase.transmit_or_validate_or_advance {s t : State} (h : BlockCase s t) :
    (s.state = .transmit ∧ t = s.writeBytes s.txFrame) ∨
    (s.state = .validate ∧ t = ({ s with crc := crc16 (crcBody s.rxFrame) } : State).conclude
      (Machine.validate s.req.fc s.req.a s.req.b s.rxFrame)) ∨
    AdvanceCase s t := by
  cases h with
  | transmit at_ => exact .inl ⟨at_, rfl⟩
  | validate at_ => exact .inr (.inl ⟨at_, rfl⟩)
  | advance tx val => exact .inr (.inr (State.advance_cases tx val))

/-- No step of the block writes one of these. -/
theorem BlockCase.keeps {s t : State} (h : BlockCase s t) : t.cfg = s.cfg ∧ t.init = s.init ∧ t.req = s.req := by
  rcases h.transmit_or_validate_or_advance with ⟨-, rfl⟩ | ⟨-, rfl⟩ | adv
  · simp
  · simp
  · exact adv.keeps

/-! ## What a step without reset can do -/

/-- A step without reset: a command at the port, a step of the block, or an action of the host that changes no more of the block
than the configuration, and that only while INIT = 0 (R12). -/
theorem step_cases_of_not_reset {s t : State} (noReset : ∀ k later, s.host ≠ .reset k :: later) (h : step s = .next t) :
    (∃ later, CommandCase { s with host := later } t) ∨ (∃ later, BlockCase { s with host := later } t) ∨
    (∃ cfg host replies freeCount, (s.init = true → cfg = s.cfg) ∧
      t = { s with cfg := cfg, host := host, replies := replies, freeCount := freeCount }) := by
  cases step_cases h with
  | command w later _ at_ ran => exact .inl ⟨later, ran⟩
  | writeReg n v later at_ =>
    exact .inr (.inr ⟨_, later, s.replies, s.freeCount, fun booted => if_pos booted, State.writeReg_eq n v _⟩)
  | readReg n later at_ => exact .inr (.inr ⟨s.cfg, later, _, _, fun _ => rfl, rfl⟩)
  | reset sent later at_ => exact absurd at_ (noReset sent later)
  | ready later at_ idle => exact .inr (.inr ⟨s.cfg, later, s.replies, s.freeCount, fun _ => rfl, rfl⟩)
  | block later _ at_ ran => exact .inr (.inl ⟨later, ran⟩)

/-! ## The obligations -/

/-- Settles O49: only a register write changes the configuration, and only while INIT = 0. -/
theorem configurationFrozenOnceInitialized : Obligations.ConfigurationFrozenOnceInitialized := by
  intro s t booted noReset h
  rcases step_cases_of_not_reset noReset h with ⟨later, ran⟩ | ⟨later, ran⟩ | ⟨cfg, _, _, _, frozen, rfl⟩
  · cases ran with
    | refused => exact ⟨rfl, booted⟩
    | initialized => exact ⟨rfl, rfl⟩
    | accepted => exact ⟨rfl, booted⟩
  · obtain ⟨hcfg, hinit, -⟩ := ran.keeps
    exact ⟨hcfg, hinit.trans booted⟩
  · exact ⟨frozen booted, booted⟩

/-- Settles O52: only an accepted command writes the latches, and a command is accepted in IDLE only. -/
theorem requestLatchesConstantInFlight : Obligations.RequestLatchesConstantInFlight := by
  intro s t busy noReset h
  rcases step_cases_of_not_reset noReset h with ⟨later, ran⟩ | ⟨later, ran⟩ | ⟨cfg, _, _, _, -, rfl⟩
  · cases ran with
    | refused => rfl
    | initialized idle => exact absurd idle busy
    | accepted _ _ _ _ idle => exact absurd idle busy
  · exact ran.keeps.2.2
  · rfl

/-- What a step of the block does to the line: it stays, goes HIGH with TRANSMIT or LOW with RECEIVE. -/
theorem BlockCase.dir_cases {s t : State} (h : BlockCase s t) :
    t.dir = s.dir ∨ (s.state = .buildFrame ∧ t.state = .transmit ∧ t.dir = .high) ∨
    ((s.state = .transmit ∨ s.state = .flushTransmit) ∧ t.state = .receive ∧ t.dir = .low) := by
  rcases h.transmit_or_validate_or_advance with ⟨at_, rfl⟩ | ⟨at_, rfl⟩ | adv
  · rcases s.writeBytes_cases s.txFrame with ⟨-, e⟩ | ⟨k, -, e⟩ <;> rw [e]
    · exact .inl rfl
    · exact .inr (.inr ⟨.inl at_, rfl, rfl⟩)
  · simp
  · cases adv with
    | built at_ => exact .inr (.inl ⟨at_, rfl, rfl⟩)
    | flushed at_ => exact .inr (.inr ⟨.inr at_, rfl, rfl⟩)
    | _ => simp

/-- Settles O50: besides the block's own two entries the line is driven by the acceptance of INITIALIZE alone. -/
theorem directionLineWriters : Obligations.DirectionLineWriters := by
  intro s t noReset h
  rcases step_cases_of_not_reset noReset h with ⟨later, ran⟩ | ⟨later, ran⟩ | ⟨cfg, _, _, _, -, rfl⟩
  · cases ran with
    | refused => simp +contextual
    | initialized idle ready =>
      obtain ⟨fresh, -⟩ := State.initializable_iff.1 ready
      exact ⟨by simp, fun _ _ => .inr ⟨idle, fresh, rfl⟩⟩
    | accepted => simp +contextual
  · rcases ran.dir_cases with stays | ⟨at_, to_, up⟩ | ⟨at_, to_, down⟩
    · simp +contextual [stays]
    · exact ⟨fun _ _ => ⟨at_, to_⟩, by simp [up]⟩
    · exact ⟨by simp [down], fun _ _ => .inl ⟨at_, to_⟩⟩
  · simp +contextual

/-- A list stored from `i` on is read back there, as far as it goes; behind it the buffer is unchanged. -/
theorem getElem_storeFrom {α : Type} {n : Nat} (l : List α) (v : Vector α n) (i j : Nat) (hj : j < n) (h : i ≤ j) :
    (storeFrom v i l)[j] = l[j - i]?.getD v[j] := by
  induction l generalizing v i with
  | nil => rfl
  | cons x xs ih =>
    rw [storeFrom]
    rcases Nat.eq_or_lt_of_le h with rfl | behind
    · rw [getElem_storeFrom_outside xs _ _ _ hj (.inl (by omega))]
      simp
    · rw [ih _ _ behind, show j - i = j - (i + 1) + 1 by omega]
      simp [Nat.ne_of_lt behind]

/-- What a step of the block does to RESULT and RDATA: nothing, or the end of the transaction. -/
theorem BlockCase.result_cases {s t : State} (h : BlockCase s t) :
    (t.result = s.result ∧ t.rdata = s.rdata) ∨
    (∃ k : ErrorKind,
      ((s.state = .receive ∧ s.txErr = true ∧ k = .ioError) ∨ (s.state = .awaitResponse ∧ k = .timeout) ∨
        (s.state = .validate ∧ Machine.validate s.req.fc s.req.a s.req.b s.rxFrame = .failure k)) ∧
      t.state = .idle ∧ t.result = resultRegOf s.req.op (.failure k) ∧ t.rdata = s.rdata) ∨
    (∃ payload : List Word,
      s.state = .validate ∧ Machine.validate s.req.fc s.req.a s.req.b s.rxFrame = .success payload ∧
      t.state = .idle ∧ t.result = resultRegOf s.req.op (.success payload) ∧ t.rdata = storeFrom s.rdata 0 payload) := by
  rcases h.transmit_or_validate_or_advance with ⟨at_, rfl⟩ | ⟨at_, rfl⟩ | adv
  · simp
  · rcases State.conclude_cases (Machine.validate s.req.fc s.req.a s.req.b s.rxFrame)
      { s with crc := crc16 (crcBody s.rxFrame) } with ⟨p, verdict, e⟩ | ⟨k, verdict, e⟩ <;> rw [e]
    · exact .inr (.inr ⟨p, at_, verdict, rfl, rfl, rfl⟩)
    · exact .inr (.inl ⟨k, .inr (.inr ⟨at_, verdict⟩), rfl, rfl, rfl⟩)
  · cases adv with
    | ioError at_ fault => exact .inr (.inl ⟨.ioError, .inl ⟨at_, fault, rfl⟩, rfl, rfl, rfl⟩)
    | timeout at_ => exact .inr (.inl ⟨.timeout, .inr (.inl ⟨at_, rfl⟩), rfl, rfl, rfl⟩)
    | _ => exact .inl (by simp)

/-- Settles O51: RESULT and RDATA are written by a command accepted in IDLE or by the step that ends the transaction. -/
theorem resultWrittenOnlyAtTheEnd : Obligations.ResultWrittenOnlyAtTheEnd := by
  intro s t noReset h
  rcases step_cases_of_not_reset noReset h with ⟨later, ran⟩ | ⟨later, ran⟩ | ⟨cfg, _, _, _, -, rfl⟩
  · cases ran with
    | refused => exact .inl ⟨rfl, rfl⟩
    | initialized idle ready =>
      obtain ⟨fresh, -⟩ := State.initializable_iff.1 ready
      exact .inr (.inr (.inl ⟨idle, idle, fresh, rfl, rfl, rfl⟩))
    | accepted _ _ _ _ idle => exact .inr (.inl ⟨idle, rfl, rfl, rfl⟩)
  · rcases ran.result_cases with same | failure | ⟨payload, at_, verdict, idle, result, words⟩
    · exact .inl same
    · exact .inr (.inr (.inr (.inl failure)))
    · refine .inr (.inr (.inr (.inr ⟨payload, at_, verdict, idle, result, fun j => ?_⟩)))
      rw [words]
      exact getElem_storeFrom payload s.rdata 0 j j.isLt (Nat.zero_le _)
  · exact .inl ⟨rfl, rfl⟩

end Sys2Proof.Machine
end

section
/-! SUPPORT. The invariant of R32 with its supporting clauses: it holds at reset, every step keeps it, and in a state that meets
it the buffers hold a frame whenever one is fetched (10_state.md section 8). -/

namespace Sys2Proof.Machine

/-! ## What the invariant says of a state -/

/-- R130: when the response is complete. -/
theorem State.complete_iff {s : State} : s.complete = true ↔ 2 ≤ s.rxcnt.toNat ∧ s.rxcnt = s.rxexp := by
  simp [State.complete]

section Readings
variable {s : State} (h : s.Inv)
include h

/-- R14: outside TRANSMIT and FLUSH_TRANSMIT the line is LOW. -/
theorem State.Inv.dir_low (tx : s.state ≠ .transmit) (flush : s.state ≠ .flushTransmit) : s.dir = .low := by
  cases line : s.dir with
  | low => rfl
  | high => exact ((h.dirHigh.1 line).elim tx flush).elim

/-- R32(d): outside AWAIT_RESPONSE the window is closed. -/
theorem State.Inv.window_closed (off : s.state ≠ .awaitResponse) : s.window = false :=
  Bool.eq_false_iff.2 fun opened => off (h.windowOpen.1 opened)

/-- R32(c): while INIT = 0 the block is idle. -/
theorem State.Inv.idle_of_not_init (fresh : s.init = false) : s.state = .idle := by
  by_contra busy
  simp [h.busyInit busy] at fresh

/-- R129: in AWAIT_RESPONSE the response is never complete, so RECEIVE never closes the window unasked. -/
theorem State.Inv.not_complete (at_ : s.state = .awaitResponse) : s.complete = false := by
  rw [Bool.eq_false_iff]
  intro done
  obtain ⟨two, all⟩ := State.complete_iff.1 done
  have short := (h.awaiting at_ two).1
  rw [all] at short
  exact Nat.lt_irrefl _ short

/-- R18, R129: while the response is incomplete RXBUF has room for a byte. -/
theorem State.Inv.room (at_ : s.state = .awaitResponse) : s.rxcnt.toNat < 255 := by
  have busy : s.state ≠ .idle := by simp [at_]
  by_cases two : 2 ≤ s.rxcnt.toNat
  · obtain ⟨short, length⟩ := h.awaiting at_ two
    have := (expectedLength_bounds (byteAt s.rxbuf.toList 1) (h.count busy)).2
    omega
  · omega

end Readings

/-! ## How the invariant is shown -/

/-- In IDLE the invariant is what R14, R25 and R32 say of a block without a transaction. -/
theorem State.Inv.of_idle {s : State} (idle : s.state = .idle) (dir : s.dir = .low) (window : s.window = false)
    (notDone : s.result.done = false → s.result = ResultReg.cleared)
    (rcountValid : s.result.rcount ≠ 0 → s.result.kind = .success ∧ s.result.done = true)
    (booted : s.init = true →
      Config.slaveAddrLegal s.cfg.slaveAddr = true ∧ s.cfg.wrPmax = true ∧ s.cfg.wrTimeout = true) : s.Inv where
  dirHigh := by simp [idle, dir]
  busyInit busy := absurd idle busy
  busyCleared busy := absurd idle busy
  notReported := by simp [idle]
  notDone := notDone
  windowOpen := by simp [idle, window]
  rcountValid := rcountValid
  booted := booted
  function busy := absurd idle busy
  count busy := absurd idle busy
  frame := by simp [idle]
  noTxErr busy := absurd idle busy
  awaiting := by simp [idle]
  received := by simp [idle]

/-- Within a transaction configuration, INIT, latches and RESULT stay, and the invariant is what it says of the sequencer's
own registers. -/
theorem State.Inv.of_inFlight {s t : State} (h : s.Inv) (busy : s.state ≠ .idle)
    (keeps : t.cfg = s.cfg ∧ t.init = s.init ∧ t.req = s.req ∧ t.result = s.result)
    (dirHigh : t.dir = .high ↔ t.state = .transmit ∨ t.state = .flushTransmit)
    (notReported : t.state ≠ .errorReported)
    (windowOpen : t.window = true ↔ t.state = .awaitResponse)
    (frame : t.state = .transmit ∨ t.state = .flushTransmit →
      t.txFrame = encodeRequest s.cfg.slaveAddr s.req.fc s.req.a s.req.b)
    (noTxErr : t.state ≠ .receive → t.txErr = false)
    (awaiting : t.state = .awaitResponse → 2 ≤ t.rxcnt.toNat →
      t.rxcnt.toNat < t.rxexp.toNat ∧ t.rxexp.toNat = expectedLength s.req.fc s.req.b (byteAt t.rxbuf.toList 1))
    (received : t.state = .validate →
      t.rxcnt = t.rxexp ∧ t.rxexp.toNat = expectedLength s.req.fc s.req.b (byteAt t.rxbuf.toList 1)) : t.Inv := by
  obtain ⟨cfg, init, req, result⟩ := keeps
  rw [← cfg, ← req] at frame
  rw [← req] at awaiting received
  exact {
    dirHigh, notReported, windowOpen, frame, awaiting, received
    busyInit := fun _ => init.trans (h.busyInit busy)
    busyCleared := fun _ => result.trans (h.busyCleared busy)
    notDone := result ▸ h.notDone
    rcountValid := result ▸ h.rcountValid
    booted := init ▸ cfg ▸ h.booted
    function := fun _ => req ▸ h.function busy
    count := fun _ => req ▸ h.count busy
    noTxErr := fun _ => noTxErr }

/-- The invariant does not look at the host's list, the answers at the port and the counter of free values, nor, while INIT = 0,
at the configuration. -/
theorem State.Inv.of_port {s : State} (h : s.Inv) {cfg : Cfg} (frozen : s.init = true → cfg = s.cfg) (host : List Action)
    (replies : List Reply) (freeCount : Nat) :
    ({ s with cfg := cfg, host := host, replies := replies, freeCount := freeCount } : State).Inv := by
  cases booted : s.init with
  | true => rw [frozen booted]; rw [← booted]; exact { h with }
  | false =>
    have idle := h.idle_of_not_init booted
    exact .of_idle idle (h.dir_low (by simp [idle]) (by simp [idle])) (h.window_closed (by simp [idle])) h.notDone
      h.rcountValid (by simp)

theorem State.Inv.withHost {s : State} (h : s.Inv) (later : List Action) : (s.withHost later).Inv := { h with }

/-- A transaction that ends, with DONE = 1 and the window closed, leaves a block that meets the invariant in IDLE. -/
theorem State.Inv.of_ended {s t : State} (h : s.Inv) (tx : s.state ≠ .transmit) (flush : s.state ≠ .flushTransmit)
    (keeps : t.cfg = s.cfg ∧ t.init = s.init ∧ t.dir = s.dir) (idle : t.state = .idle) (window : t.window = false)
    (done : t.result.done = true) (rcountValid : t.result.rcount ≠ 0 → t.result.kind = .success) : t.Inv := by
  obtain ⟨cfg, init, dir⟩ := keeps
  exact .of_idle idle (dir.trans (h.dir_low tx flush)) window (by simp [done]) (fun some_ => ⟨rcountValid some_, done⟩)
    (init ▸ cfg ▸ h.booted)

/-! ## Reset and the host's actions -/

theorem State.Inv.reset : State.reset.Inv :=
  .of_idle rfl rfl rfl (fun _ => rfl) (by decide) (by decide)

theorem State.Inv.assertReset (sent : Fin 9) (s : State) : (s.assertReset sent).Inv :=
  .of_idle rfl rfl rfl (fun _ => rfl) (fun some_ => absurd rfl some_) nofun

/-- A command word is accepted from IDLE with INIT = 1 and a request of R69, or refused (R100, R101, R102). -/
theorem CommandCase.inv {s t : State} (ran : CommandCase s t) (h : s.Inv) : t.Inv := by
  cases ran with
  | refused => exact h.of_port (cfg := s.cfg) (fun _ => rfl) s.host (s.replies ++ [.refused]) s.freeCount
  | initialized idle ready =>
    exact .of_idle idle rfl (h.window_closed (by simp [idle])) nofun (fun some_ => absurd rfl some_)
      (fun _ => (State.initializable_iff.1 ready).2)
  | accepted op fc a b idle init request =>
    exact {
      dirHigh := by simp [h.dir_low (by simp [idle]) (by simp [idle])]
      busyInit := fun _ => init
      busyCleared := fun _ => rfl
      notReported := nofun
      notDone := fun _ => rfl
      windowOpen := by simp [h.window_closed (by simp [idle])]
      rcountValid := fun some_ => absurd rfl some_
      booted := h.booted
      function := fun _ => request.imp And.left id
      count := fun _ read => request.elim And.right fun write => absurd (read.symm.trans write) (by decide)
      frame := by simp
      noTxErr := fun _ _ => rfl
      awaiting := nofun
      received := nofun }

/-! ## The block's step -/

/-- R92: the frame is sent with the line HIGH, or a fault leads to RECEIVE with the line LOW (R124, R125, R127). -/
theorem State.Inv.writeBytes {s : State} (h : s.Inv) (at_ : s.state = .transmit) (f : List Byte) : (s.writeBytes f).Inv := by
  have busy : s.state ≠ .idle := by simp [at_]
  have closed := h.window_closed (by simp [at_])
  rcases s.writeBytes_cases f with ⟨-, e⟩ | ⟨k, -, e⟩ <;> rw [e]
  · exact h.of_inFlight busy ⟨rfl, rfl, rfl, rfl⟩ (by simp [h.dirHigh, at_]) nofun (by simp [closed])
      (fun _ => h.frame (.inl at_)) (fun _ => h.noTxErr busy (by simp [at_])) nofun nofun
  · exact h.of_inFlight busy ⟨rfl, rfl, rfl, rfl⟩ (by simp) nofun (by simp [closed]) (by simp)
      (fun off => absurd rfl off) nofun nofun

/-- R133: the frame in RXBUF is judged, and the transaction ends. -/
theorem State.Inv.conclude {s : State} (h : s.Inv) (at_ : s.state = .validate) (crc : Word) (r : TransactionResult) :
    (({ s with crc := crc } : State).conclude r).Inv := by
  have closed := h.window_closed (by simp [at_])
  cases r with
  | success p =>
    exact h.of_ended (by simp [at_]) (by simp [at_]) ⟨rfl, rfl, rfl⟩ rfl closed rfl (fun _ => rfl)
  | failure k =>
    exact h.of_ended (by simp [at_]) (by simp [at_]) ⟨rfl, rfl, rfl⟩ rfl closed rfl (fun some_ => absurd rfl some_)

/-- R129, R180: once two bytes are stored RXEXP is the expected length, and no more bytes than that are stored. -/
theorem State.Inv.storeByte_length {s : State} (h : s.Inv) (at_ : s.state = .awaitResponse) (b : Byte)
    (two : 2 ≤ (State.storeByte b s).rxcnt.toNat) :
    (State.storeByte b s).rxcnt.toNat ≤ (State.storeByte b s).rxexp.toNat ∧
    (State.storeByte b s).rxexp.toNat =
      expectedLength s.req.fc s.req.b (byteAt (State.storeByte b s).rxbuf.toList 1) := by
  have count := h.count (by simp [at_])
  obtain ⟨cnt, buf, second, later⟩ := State.storeByte_facts b (h.room at_) count
  rw [cnt] at two ⊢
  rw [buf]
  by_cases isSecond : s.rxcnt.toNat + 1 = 2
  · have one : s.rxcnt.toNat = 1 := by omega
    have stored : byteAt (s.rxbuf.toList.set s.rxcnt.toNat b) 1 = b := by simp [byteAt, one]
    rw [second isSecond, stored]
    have := (expectedLength_bounds b count).1
    omega
  · have unchanged : byteAt (s.rxbuf.toList.set s.rxcnt.toNat b) 1 = byteAt s.rxbuf.toList 1 := by
      have off : s.rxcnt.toNat ≠ 1 := by omega
      simp only [byteAt, List.getD_eq_getElem?_getD, List.getElem?_set_ne off]
    obtain ⟨short, length⟩ := h.awaiting at_ (by omega)
    rw [later isSecond, unchanged]
    exact ⟨short, length⟩

/-- R129, R130: a byte is stored, and the window closes with the last one. -/
theorem State.Inv.storeByte {s : State} (h : s.Inv) (at_ : s.state = .awaitResponse) (b : Byte) :
    (State.storeByte b s).closeIfComplete.Inv := by
  have busy : s.state ≠ .idle := by simp [at_]
  have low := h.dir_low (by simp [at_]) (by simp [at_])
  have noTxErr := h.noTxErr busy (by simp [at_])
  have state : (State.storeByte b s).state = .awaitResponse := at_
  have length := h.storeByte_length at_ b
  rcases (State.storeByte b s).closeIfComplete_cases with ⟨done, e⟩ | ⟨notDone, e⟩ <;> rw [e]
  · obtain ⟨two, all⟩ := State.complete_iff.1 done
    exact h.of_inFlight busy ⟨rfl, rfl, rfl, rfl⟩ (by simp [low]) nofun (by simp) (by simp) (fun _ => noTxErr) nofun
      (fun _ => ⟨all, (length two).2⟩)
  · refine h.of_inFlight busy ⟨rfl, rfl, rfl, rfl⟩ (by simp [low, state]) (by simp [state])
      (iff_of_true (h.windowOpen.2 at_) state) (by simp [state]) (fun _ => noTxErr) (fun _ two => ?_) (by simp [state])
    obtain ⟨most, exact_⟩ := length two
    have notAll : (State.storeByte b s).rxcnt.toNat ≠ (State.storeByte b s).rxexp.toNat := fun all =>
      absurd (State.complete_iff.2 ⟨two, BitVec.eq_of_toNat_eq all⟩) (by simp [notDone])
    exact ⟨by omega, exact_⟩

/-- The sequencer's own step keeps the invariant (R121, R122, R126 to R131, R134). -/
theorem AdvanceCase.inv {s t : State} (ran : AdvanceCase s t) (h : s.Inv) : t.Inv := by
  cases ran with
  | waiting => exact h
  | built at_ buf crc frame =>
    have busy : s.state ≠ .idle := by simp [at_]
    exact h.of_inFlight busy ⟨rfl, rfl, rfl, rfl⟩ (by simp) nofun (by simp [h.window_closed, at_]) (fun _ => frame)
      (fun _ => h.noTxErr busy (by simp [at_])) nofun nofun
  | flushed at_ n some_ =>
    have busy : s.state ≠ .idle := by simp [at_]
    exact h.of_inFlight busy ⟨rfl, rfl, rfl, rfl⟩ (by simp) nofun (by simp [h.window_closed, at_]) (by simp)
      (fun off => absurd rfl off) nofun nofun
  | ioError at_ fault =>
    exact h.of_ended (by simp [at_]) (by simp [at_]) ⟨rfl, rfl, rfl⟩ rfl (h.window_closed (by simp [at_])) rfl
      (fun some_ => absurd rfl some_)
  | opened at_ ok =>
    exact h.of_inFlight (by simp [at_]) ⟨rfl, rfl, rfl, rfl⟩ (by simp [h.dir_low, at_]) nofun (by simp) (by simp)
      (fun _ => ok) (fun _ two => absurd two (by simp)) nofun
  | closed at_ done => simp [h.not_complete at_] at done
  | byte at_ _ _ b later _ =>
    have sameButPath : ({ s with env := { s.env with receive := later } } : State).Inv := { h with }
    exact sameButPath.storeByte at_ b
  | timeout at_ =>
    exact h.of_ended (by simp [at_]) (by simp [at_]) ⟨rfl, rfl, rfl⟩ rfl rfl rfl (fun some_ => absurd rfl some_)
  | returned at_ => exact absurd at_ h.notReported

/-- So does every step of the block. -/
theorem BlockCase.inv {s t : State} (ran : BlockCase s t) (h : s.Inv) : t.Inv := by
  rcases ran.transmit_or_validate_or_advance with ⟨at_, rfl⟩ | ⟨at_, rfl⟩ | adv
  · exact h.writeBytes at_ _
  · exact h.conclude at_ _ _
  · exact adv.inv h

/-! ## Every instruction runs -/

theorem State.issue_next (legal : Bool) (op : BitVec 4) (fc : Byte) (a b : Word) (s : State) :
    ∃ t, s.issue legal op fc a b = .next t := by
  unfold State.issue
  split <;> exact ⟨_, rfl⟩

theorem State.issueBoolean_next (op : BitVec 4) (map : Option Word) (valT valF a : Word) (s : State) :
    ∃ t, s.issueBoolean op map valT valF a = .next t := by
  cases map with
  | some addr => exact State.issue_next ..
  | none => exact ⟨_, rfl⟩

theorem State.transmitFrame_next (f : List Byte) (s : State) : ∃ t, s.transmitFrame f = .next t := by
  unfold State.transmitFrame
  split <;> exact ⟨_, rfl⟩

theorem State.judgeFrame_next (f : List Byte) (s : State) : ∃ t, s.judgeFrame f = .next t := by
  unfold State.judgeFrame
  split <;> exact ⟨_, rfl⟩

/-- No meaning stops the machine: a refused command and a frame out of its state are steps too (log entries 5, 9). -/
theorem exec_next (i : Instr) (s : State) : ∃ t, exec i s = .next t := by
  cases i with
  | initMaster =>
    simp only [exec, execInitMaster]
    split <;> exact ⟨_, rfl⟩
  | readHoldingRegisters | writeSingleRegister | readMotorTelemetry | setMotorSpeed => exact State.issue_next ..
  | setMotorEnable | setMotorDirection | setMotorBrake => exact State.issueBoolean_next ..
  | reservedOp => exact ⟨_, rfl⟩
  | fc3Request | fc6Request => exact State.transmitFrame_next ..
  | fc3Response | fc6Response | exceptionResponseFc3 | exceptionResponseFc6 | otherFunctionByte =>
    exact State.judgeFrame_next ..

/-! ## A frame stands where one is fetched -/

/-- R72: a request with one of the two function codes decodes. -/
theorem decodeRequest_encodeRequest_ok (slave : Byte) {fc : Byte} (a b : Word)
    (function : fc = Config.fcRead ∨ fc = Config.fcWrite) : ∃ i, decodeRequest (encodeRequest slave fc a b) = .ok i := by
  rcases function with rfl | rfl <;> exact ⟨_, rfl⟩

/-- R64: `2n + 2` bytes are `n` register values and a CRC. -/
theorem splitValues_of_length {n : Nat} {f : List Byte} (length : f.length = 2 * n + 2) :
    ∃ ws crc, splitValues f = some (ws, crc) ∧ ws.length = n := by
  induction n generalizing f with
  | zero =>
    obtain ⟨cl, ch, rfl⟩ := List.length_eq_two.1 length
    exact ⟨[], joinBytes ch cl, rfl, rfl⟩
  | succ n ih =>
    match f, length with
    | h :: l :: x :: xs, length =>
      obtain ⟨ws, crc, split, count⟩ := ih (f := x :: xs) (by simp at length ⊢; omega)
      exact ⟨joinBytes h l :: ws, crc, by rw [splitValues, split], by simp [count]⟩

/-- R64: the bytes after byte 1 of a response with 1 to 125 register values decode. -/
theorem decodeReadResponse_ok (slave : Byte) {b : Word} {rest : List Byte} (count : countLegal b = true)
    (length : rest.length = 2 * b.toNat + 3) : ∃ i, decodeReadResponse slave rest = .ok i := by
  match rest, length with
  | byteCount :: body, length =>
    obtain ⟨ws, crc, split, values⟩ := splitValues_of_length (f := body) (by simpa using length)
    simp only [countLegal, Bool.and_eq_true, decide_eq_true_eq] at count
    rw [decodeReadResponse, split]
    exact ⟨_, if_pos (values ▸ count)⟩

/-- R65: the six bytes after byte 1 of a write's echo decode. -/
theorem decodeWriteResponse_ok (slave : Byte) {rest : List Byte} (length : rest.length = 6) :
    ∃ i, decodeWriteResponse slave rest = .ok i := by
  match rest, length with
  | [ah, al, vh, vl, cl, ch], _ => exact ⟨_, rfl⟩

/-- R66: the three bytes after byte 1 of an exception response decode. -/
theorem decodeException_of_length (mk : Byte → Word → Instr) {rest : List Byte} (length : rest.length = 3) :
    ∃ i, decodeException mk rest = .ok i := by
  match rest, length with
  | [code, cl, ch], _ => exact ⟨_, rfl⟩

/-- R75, R180: the expected length is one of the lengths a received frame can have. -/
theorem responseLength_of_expectedLength {fc function : Byte} {b : Word} {n : Nat}
    (count : fc = Config.fcRead → countLegal b = true) (length : n + 2 = expectedLength fc b function) :
    responseLength function n = true := by
  unfold expectedLength at length
  unfold responseLength
  split at length
  · rw [if_pos ‹_›]
    simpa using length
  · rw [if_neg ‹_›]
    split at length
    · have legal := count ‹_›
      simp only [countLegal, Config.maxCount, Bool.and_eq_true, decide_eq_true_eq] at legal
      simp only [normalLength, Bool.or_eq_true, Bool.and_eq_true, decide_eq_true_eq, beq_iff_eq]
      omega
    · rw [length]; rfl

/-- R67, R180: a response of the expected length decodes, whatever its bytes are. -/
theorem decodeResponse_of_expectedLength {fc : Byte} {b : Word} {f : List Byte}
    (function : fc = Config.fcRead ∨ fc = Config.fcWrite) (count : fc = Config.fcRead → countLegal b = true)
    (length : f.length = expectedLength fc b (byteAt f 1)) : ∃ i, decodeResponse fc f = .ok i := by
  have five := (expectedLength_bounds (byteAt f 1) count).1
  match f, length with
  | [], length => rw [← length] at five; simp at five
  | [_], length => rw [← length] at five; simp at five
  | slave :: byte1 :: rest, length =>
    replace length : rest.length + 2 = expectedLength fc b byte1 := length
    rw [decodeResponse]
    split_ifs with read write excRead excWrite other
    · obtain ⟨rfl, rfl⟩ := read
      refine decodeReadResponse_ok slave (count rfl) ?_
      have total : rest.length + 2 = 5 + 2 * b.toNat := by simpa [expectedLength] using length
      omega
    · obtain ⟨rfl, rfl⟩ := write
      refine decodeWriteResponse_ok slave ?_
      simpa [expectedLength] using length
    · obtain ⟨rfl, rfl⟩ := excRead
      refine decodeException_of_length _ ?_
      simpa [expectedLength] using length
    · obtain ⟨rfl, rfl⟩ := excWrite
      refine decodeException_of_length _ ?_
      simpa [expectedLength] using length
    · exact ⟨_, rfl⟩
    · exact absurd (responseLength_of_expectedLength count length) other

/-- R133: in VALIDATE the received frame has the length RXEXP, and its byte 1 is that of RXBUF. -/
theorem State.Inv.rxFrame_length {s : State} (h : s.Inv) (at_ : s.state = .validate) :
    s.rxFrame.length = expectedLength s.req.fc s.req.b (byteAt s.rxFrame 1) := by
  obtain ⟨-, length⟩ := h.received at_
  have bounds := expectedLength_bounds (byteAt s.rxbuf.toList 1) (h.count (by simp [at_]))
  have byte1 : byteAt s.rxFrame 1 = byteAt s.rxbuf.toList 1 := by
    simp only [byteAt, State.rxFrame, List.getD_eq_getElem?_getD]
    rw [List.getElem?_take_of_lt (by omega)]
  rw [byte1, ← length, State.rxFrame, List.length_take, Vector.length_toList]
  omega

/-- From a state that meets the invariant the block's own step goes on. -/
theorem State.Inv.fetchBlock_next {s : State} (h : s.Inv) : ∃ t, s.fetchBlock.outcome = .next t := by
  by_cases tx : s.state = .transmit
  · obtain ⟨i, decoded⟩ := decodeRequest_encodeRequest_ok s.cfg.slaveAddr s.req.a s.req.b (h.function (by simp [tx]))
    rw [State.fetchBlock_transmit tx, h.frame (.inl tx), decoded]
    exact exec_next i s
  by_cases val : s.state = .validate
  · have busy : s.state ≠ .idle := by simp [val]
    obtain ⟨i, decoded⟩ := decodeResponse_of_expectedLength (h.function busy) (h.count busy) (h.rxFrame_length val)
    rw [State.fetchBlock_validate val, decoded]
    exact exec_next i s
  · rw [State.fetchBlock_advance tx val]
    exact ⟨_, rfl⟩

/-! ## The obligations -/

/-- Settles O44: the reset state is idle with the line LOW, and its trace is empty. -/
theorem invariantHoldsAtReset : Obligations.InvariantHoldsAtReset :=
  ⟨State.Inv.reset, rfl, by decide, by decide⟩

/-- Settles O45: the host's actions and reset by the lemmas above, the block's step case by case. -/
theorem invariantKeptByEveryStep : Obligations.InvariantKeptByEveryStep := by
  intro s t h hs
  cases step_cases hs with
  | command w later _ _ ran => exact ran.inv (h.withHost later)
  | writeReg n v later _ =>
    rw [State.writeReg_eq]
    exact h.of_port (fun booted => if_pos booted) later s.replies s.freeCount
  | readReg n later _ => exact h.of_port (cfg := s.cfg) (fun _ => rfl) later _ _
  | reset sent later _ => exact .assertReset sent _
  | ready later _ _ => exact h.withHost later
  | block later _ _ ran => exact ran.inv (h.withHost later)

/-- Settles O47: only a broken precondition stops the machine, because a frame stands where one is fetched. -/
theorem invariantStatesNeverRefuse : Obligations.InvariantStatesNeverRefuse := by
  intro s h
  match hs : s.host with
  | [] => exact .inl (step_of_host_nil hs ▸ h.fetchBlock_next)
  | .command w :: later => exact .inl (step_of_command hs ▸ exec_next _ _)
  | .writeReg n v :: later => exact .inl ⟨_, step_of_writeReg hs⟩
  | .readReg n :: later => exact .inl ⟨_, step_of_readReg hs⟩
  | .reset sent :: later => exact .inl ⟨_, step_of_reset hs⟩
  | .letRun :: later => exact .inl (step_of_letRun hs ▸ (h.withHost later).fetchBlock_next)
  | .awaitReady :: later =>
    by_cases idle : s.state = .idle
    · exact .inl ⟨_, step_of_awaitReady_idle hs idle⟩
    · exact .inl (step_of_awaitReady_busy hs idle ▸ h.fetchBlock_next)
  | .violation v :: later => exact .inr ⟨v, later, rfl⟩

end Sys2Proof.Machine
end

section
/-! SUPPORT. What the statement about a slave that echoes state (20_memory.md R48) needs of the frames: the operands of a
command word, a frame whose CRC its sender appended, what the simulated slave answers, and how the validator judges the
answers. -/

namespace Sys2Proof

/-! ## The fields of a command word (30_encoding.md R60) -/

@[simp] theorem extract_op_commandWord (op : BitVec 4) (a b : Word) : (commandWord op a b).extractLsb' 32 4 = op := by
  apply BitVec.eq_of_toNat_eq
  rw [BitVec.extractLsb'_toNat, Laws.EncodedShape.toNat_commandWord, Nat.shiftRight_eq_div_pow]
  omega

@[simp] theorem extract_a_commandWord (op : BitVec 4) (a b : Word) : (commandWord op a b).extractLsb' 16 16 = a := by
  apply BitVec.eq_of_toNat_eq
  rw [BitVec.extractLsb'_toNat, Laws.EncodedShape.toNat_commandWord, Nat.shiftRight_eq_div_pow]
  omega

@[simp] theorem extract_b_commandWord (op : BitVec 4) (a b : Word) : (commandWord op a b).extractLsb' 0 16 = b := by
  apply BitVec.eq_of_toNat_eq
  rw [BitVec.extractLsb'_toNat, Laws.EncodedShape.toNat_commandWord, Nat.shiftRight_eq_div_pow]
  omega

theorem decodeCommand_read (start count : Word) :
    decodeCommand (commandWord 1 start count) = .readHoldingRegisters start count := by
  simp [decodeCommand]

theorem decodeCommand_write (addr value : Word) :
    decodeCommand (commandWord 2 addr value) = .writeSingleRegister addr value := by
  simp [decodeCommand]

end Sys2Proof

namespace Sys2Proof.Machine

/-! ## A frame whose CRC its sender appended (43_crc16.md R155, R156) -/

@[simp] theorem crcBody_appendCrc (body : List Byte) : crcBody (appendCrc body) = body := by
  simp [crcBody, appendCrc]

@[simp] theorem receivedCrc_appendCrc (body : List Byte) : receivedCrc (appendCrc body) = crc16 body := by
  simp [receivedCrc, appendCrc]

@[simp] theorem crcOk_appendCrc (body : List Byte) : crcOk (appendCrc body) = true := by
  simp [crcOk]

/-! ## The simulated slave (20_memory.md R42, R48) -/

/-- A write to the slave's own address is carried out and echoed. -/
theorem Slave.respond_write (sl : Slave) (a v : Word) :
    sl.respond (encodeRequest sl.addr Config.fcWrite a v) =
      ({ sl with cells := sl.cells.write a.toNat v }, encodeRequest sl.addr Config.fcWrite a v) := by
  have decoded : decodeRequest (encodeRequest sl.addr Config.fcWrite a v) = .ok (.fc6Request sl.addr
      (joinBytes (hi8 a) (lo8 a)) (joinBytes (hi8 v) (lo8 v)) _) := rfl
  rw [Slave.respond, decoded]
  simp [encodeRequest]

/-- A read from the slave's own address is answered with the registers asked for. -/
theorem Slave.respond_read (sl : Slave) (a count : Word) :
    sl.respond (encodeRequest sl.addr Config.fcRead a count) =
      (sl, readAnswer sl.addr (sl.cells.readMany a.toNat count.toNat)) := by
  have decoded : decodeRequest (encodeRequest sl.addr Config.fcRead a count) = .ok (.fc3Request sl.addr
      (joinBytes (hi8 a) (lo8 a)) (joinBytes (hi8 count) (lo8 count)) _) := rfl
  rw [Slave.respond, decoded]
  simp [encodeRequest]

/-- Reading one register is reading its cell. -/
theorem Cells.readMany_one (a : Word) (c : Cells) : c.readMany a.toNat 1 = [c.read a.toNat] := by
  have inRange : a.toNat % 65536 = a.toNat := Nat.mod_eq_of_lt a.isLt
  simp [Cells.readMany, inRange]

/-! ## The validator on these answers (44_frame_codec.md R181, R185, R186) -/

/-- The echo of a write is its Success. -/
theorem validate_echo (slave : Byte) (a v : Word) :
    validate Config.fcWrite a v (encodeRequest slave Config.fcWrite a v) = .success [] := by
  have ok : crcOk (encodeRequest slave Config.fcWrite a v) = true := crcOk_appendCrc _
  rw [validate, ok]
  simp [encodeRequest, appendCrc, requestBody, byteAt]

/-- The answer to a read of one register is a Success with its value. -/
theorem validate_readAnswer_one (slave : Byte) (a v : Word) :
    validate Config.fcRead a 1 (readAnswer slave [v]) = .success [v] := by
  have ok : crcOk (readAnswer slave [v]) = true := crcOk_appendCrc _
  rw [validate, ok]
  simp [readAnswer, appendCrc, wordBytes, byteAt, responseWords, responseWord]

/-- The echo of a write has the length R180 expects. -/
theorem length_echo (slave : Byte) (a v : Word) :
    (encodeRequest slave Config.fcWrite a v).length =
      expectedLength Config.fcWrite v (byteAt (encodeRequest slave Config.fcWrite a v) 1) := by
  simp [encodeRequest, appendCrc, requestBody, byteAt, expectedLength]

/-- So has the answer to a read of one register. -/
theorem length_readAnswer_one (slave : Byte) (v : Word) :
    (readAnswer slave [v]).length = expectedLength Config.fcRead 1 (byteAt (readAnswer slave [v]) 1) := by
  simp [readAnswer, appendCrc, wordBytes, byteAt, expectedLength]

/-- R111(b), R186: the payload of a Success fits RDATA. -/
theorem length_le_of_validate_success {fc : Byte} {a b : Word} {f : List Byte} {p : List Word}
    (count : fc = Config.fcRead → countLegal b = true) (function : fc = Config.fcRead ∨ fc = Config.fcWrite)
    (verdict : validate fc a b f = .success p) : p.length ≤ 125 := by
  unfold validate at verdict
  split_ifs at verdict with _ _ _ write
  · cases verdict; simp
  · cases verdict
    have legal := count (function.resolve_right write)
    simp only [countLegal, Config.maxCount, Bool.and_eq_true, decide_eq_true_eq] at legal
    simpa [responseWords] using legal.2

end Sys2Proof.Machine
end

section
/-! SUPPORT. Whole transactions as runs (42_transaction_sequencer.md R135, R136): while the host waits, the block runs from
BUILD_FRAME to the open window in four steps, takes the response byte by byte, judges it and comes to IDLE. -/

namespace Sys2Proof.Machine

/-! ## Runs -/

/-- A run of more than no steps is a step and the rest of the run. -/
theorem run_succ_iff {M : Host.Core} {s t : M.State} {k : Nat} :
    M.run (k + 1) s = .next t ↔ ∃ u, M.step s = .next u ∧ M.run k u = .next t := by
  rw [Host.Core.run]
  cases M.step s <;> simp

/-- A run goes on where another ended. -/
theorem run_add {M : Host.Core} {s t u : M.State} {j k : Nat} (first : M.run j s = .next t) (second : M.run k t = .next u) :
    M.run (j + k) s = .next u := by
  induction j generalizing s with
  | zero => cases first; rwa [Nat.zero_add]
  | succ j ih =>
    obtain ⟨v, step, rest⟩ := run_succ_iff.1 first
    rw [Nat.succ_add]
    exact run_succ_iff.2 ⟨v, step, ih rest⟩

/-- One step, then a run. -/
theorem run_of_step {s t u : State} {k : Nat} (first : step s = .next t) (rest : core.run k t = .next u) :
    core.run (k + 1) s = .next u :=
  run_succ_iff.2 ⟨t, first, rest⟩

/-- One step as a run. -/
theorem run_one {s t : State} (h : step s = .next t) : core.run 1 s = .next t := run_of_step h rfl

/-- The invariant holds along a run. -/
theorem State.Inv.run {s t : State} (h : s.Inv) {k : Nat} (ran : core.run k s = .next t) : t.Inv := by
  induction k generalizing s with
  | zero => cases ran; exact h
  | succ k ih =>
    obtain ⟨u, step, rest⟩ := run_succ_iff.1 ran
    exact ih (invariantKeptByEveryStep s u h step) rest

/-! ## The block's step while the host waits -/

/-- While the host waits and a transaction is in flight, the block moves (70_reset_and_hazards.md R263). -/
theorem step_of_hostWaits {s : State} (waits : s.hostWaits) (busy : s.state ≠ .idle) : step s = s.fetchBlock.outcome := by
  rcases waits with empty | ⟨later, ready⟩
  · exact step_of_host_nil empty
  · exact step_of_awaitReady_busy ready busy

theorem step_awaitResponse {s : State} (waits : s.hostWaits) (at_ : s.state = .awaitResponse) :
    step s = .next s.awaitTurn := by
  rw [step_of_hostWaits waits (by simp [at_]), State.fetchBlock, State.advance, at_]
  rfl

/-- VALIDATE judges the frame in RXBUF (R133). -/
theorem State.Inv.step_validate {s : State} (h : s.Inv) (waits : s.hostWaits) (at_ : s.state = .validate) :
    step s = .next (({ s with crc := crc16 (crcBody s.rxFrame) } : State).conclude
      (validate s.req.fc s.req.a s.req.b s.rxFrame)) := by
  obtain ⟨t, ran⟩ := h.fetchBlock_next
  rw [step_of_hostWaits waits (by simp [at_]), ran]
  cases BlockCase.of_fetchBlock ran with
  | transmit tx => simp [at_] at tx
  | validate => rfl
  | advance _ off => exact absurd at_ off

/-! ## The transmit phase -/

/-- R122, R123: BUILD_FRAME puts the request frame into TXBUF and enters TRANSMIT. -/
theorem step_buildFrame {s : State} (waits : s.hostWaits) (at_ : s.state = .buildFrame) : step s = .next { s with
    txbuf := storeFrom s.txbuf 0 (encodeRequest s.cfg.slaveAddr s.req.fc s.req.a s.req.b)
    crc := crc16 (requestBody s.cfg.slaveAddr s.req.fc s.req.a s.req.b)
    state := .transmit, dir := .high, trace := s.trace ++ [.dir .high] } := by
  rw [step_of_hostWaits waits (by simp [at_]), State.fetchBlock, State.advance, at_]
  simp only [State.buildFrame, State.crcFeed_eq]
  rfl

/-- R124: a write that the environment lets through sends the whole frame. -/
theorem State.writeBytes_ok {s : State} {writes : List WriteOutcome} (env : s.env.writes = .ok :: writes) (f : List Byte) :
    s.writeBytes f = { s with
      env := { s.env with writes := writes }, state := .flushTransmit, trace := s.trace ++ txEvents f } := by
  rcases s.nextWrite_cases with ⟨later, head, drop⟩ | ⟨empty, -⟩
  · obtain ⟨ok, rfl⟩ := List.cons.inj (env.symm.trans head)
    rw [State.writeBytes, ← ok, drop]
    rfl
  · simp [empty] at env

/-- R124: TRANSMIT sends the request frame. -/
theorem State.Inv.step_transmit {s : State} (h : s.Inv) (waits : s.hostWaits) (at_ : s.state = .transmit)
    {writes : List WriteOutcome} (env : s.env.writes = .ok :: writes) : step s = .next { s with
      env := { s.env with writes := writes }, state := .flushTransmit
      trace := s.trace ++ txEvents (encodeRequest s.cfg.slaveAddr s.req.fc s.req.a s.req.b) } := by
  obtain ⟨t, ran⟩ := h.fetchBlock_next
  rw [step_of_hostWaits waits (by simp [at_]), ran]
  cases BlockCase.of_fetchBlock ran with
  | transmit => rw [h.frame (.inl at_), State.writeBytes_ok env]
  | validate val => simp [at_] at val
  | advance off => exact absurd at_ off

/-- R126, R127: on FLUSHED the line goes LOW and RECEIVE is entered. -/
theorem step_flushTransmit {s : State} (waits : s.hostWaits) (at_ : s.state = .flushTransmit) {n : Nat}
    (env : s.env.flushes = n + 1) : step s = .next { s with
      env := { s.env with flushes := n }, state := .receive, dir := .low, trace := s.trace ++ [.flushed, .dir .low] } := by
  rw [step_of_hostWaits waits (by simp [at_]), State.fetchBlock, State.advance, at_]
  simp [Fetched.outcome, State.flushWait, env, State.emit, State.enterReceive, State.setDirection, Mode.level]

/-- R127, R128: without a transmit fault the window opens. -/
theorem step_receive {s : State} (waits : s.hostWaits) (at_ : s.state = .receive) (ok : s.txErr = false) :
    step s = .next s.enterAwait := by
  rw [step_of_hostWaits waits (by simp [at_]), State.fetchBlock, State.advance, at_]
  simp [Fetched.outcome, State.receiveTurn, ok]

/-- The block after a transmit phase that went well, with the window open: `writes` and `n` are what the environment has
left. -/
def State.transmitted (writes : List WriteOutcome) (n : Nat) (s : State) : State :=
  let frame := encodeRequest s.cfg.slaveAddr s.req.fc s.req.a s.req.b
  { s with
    txbuf := storeFrom s.txbuf 0 frame, crc := crc16 (requestBody s.cfg.slaveAddr s.req.fc s.req.a s.req.b)
    state := .awaitResponse, dir := .low, rxcnt := 0, window := true
    env := { s.env with writes := writes, flushes := n }
    trace := s.trace ++ (.dir .high :: (txEvents frame ++ [.flushed, .dir .low])) }

/-- R122 to R128: with the write ok and FLUSHED to come, the block is in AWAIT_RESPONSE after four steps. -/
theorem State.Inv.run_transmitPhase {s : State} (h : s.Inv) (waits : s.hostWaits) (at_ : s.state = .buildFrame)
    {writes : List WriteOutcome} {n : Nat} (write : s.env.writes = .ok :: writes) (flush : s.env.flushes = n + 1) :
    core.run 4 s = .next (s.transmitted writes n) := by
  have noTxErr : s.txErr = false := h.noTxErr (by simp [at_]) (by simp [at_])
  have built := step_buildFrame waits at_
  have sent := (invariantKeptByEveryStep _ _ h built).step_transmit waits rfl write
  refine run_of_step built <| run_of_step sent <|
    run_of_step (step_flushTransmit (by exact waits) rfl flush) <|
    run_of_step (step_receive (by exact waits) rfl noTxErr) ?_
  simp [Host.Core.run, State.enterAwait, State.transmitted]

/-! ## The response, byte by byte -/

/-- AWAIT_RESPONSE with the bytes `got` of the response stored so far. -/
structure State.Awaits (s : State) (got : List Byte) : Prop where
  inv : s.Inv
  at_ : s.state = .awaitResponse
  bytes : s.rxbuf.toList.take s.rxcnt.toNat = got

theorem byteAt_append {f : List Byte} {i : Nat} (inside : i < f.length) (more : List Byte) :
    byteAt (f ++ more) i = byteAt f i := by
  simp only [byteAt, List.getD_eq_getElem?_getD, List.getElem?_append_left inside]

theorem byteAt_take {n i : Nat} (inside : i < n) (f : List Byte) : byteAt (f.take n) i = byteAt f i := by
  simp only [byteAt, List.getD_eq_getElem?_getD, List.getElem?_take_of_lt inside]

/-- A response that is complete stays so. -/
theorem responseComplete_append {fc : Byte} {b : Word} {got : List Byte} (more : List Byte)
    (done : responseComplete fc b got = true) : responseComplete fc b (got ++ more) = true := by
  simp only [responseComplete, Bool.and_eq_true, decide_eq_true_eq] at done ⊢
  rw [byteAt_append (by omega), List.length_append]
  omega

section Awaits
variable {s : State} {got : List Byte} (h : s.Awaits got)
include h

theorem State.Awaits.length : got.length = s.rxcnt.toNat := by
  have := h.inv.room h.at_
  rw [← h.bytes, List.length_take, Vector.length_toList]
  omega

/-- What the receive path still holds does not matter to the bytes stored. -/
theorem State.Awaits.withReceive (later : List ReceiveEvent) :
    ({ s with env := { s.env with receive := later } } : State).Awaits got :=
  ⟨{ h.inv with }, h.at_, h.bytes⟩

/-- R129: the next byte of the receive path is stored; with the last one the window closes. -/
theorem State.Awaits.step_byte (waits : s.hostWaits) {b : Byte} {later : List ReceiveEvent}
    (next : s.env.receive = .byte b :: later) :
    step s = .next (State.storeByte b { s with env := { s.env with receive := later } }).closeIfComplete := by
  have notDone := h.inv.not_complete h.at_
  have more : s.incomplete = true := by
    simp only [State.incomplete, Bool.or_eq_true, decide_eq_true_eq]
    by_cases two : 2 ≤ s.rxcnt.toNat
    · exact .inr (h.inv.awaiting h.at_ two).1
    · exact .inl (by omega)
  rw [step_awaitResponse waits h.at_, State.awaitTurn, notDone, next, more]
  rfl

/-- The byte is stored behind the others (R129). -/
theorem State.Awaits.storeByte_bytes (b : Byte) :
    (State.storeByte b s).rxbuf.toList.take (State.storeByte b s).rxcnt.toNat = got ++ [b] := by
  have room := h.inv.room h.at_
  obtain ⟨cnt, buf, -, -⟩ := State.storeByte_facts b room (h.inv.count (by simp [h.at_]))
  rw [cnt, buf, List.take_succ_eq_append_getElem (by simpa using room)]
  simp [List.take_set_of_le, h.bytes]

/-- The block closes the window with exactly the byte that completes the response (R130, R180). -/
theorem State.Awaits.storeByte_complete (b : Byte) :
    (State.storeByte b s).complete = responseComplete s.req.fc s.req.b (got ++ [b]) := by
  have cnt : (State.storeByte b s).rxcnt.toNat = (got ++ [b]).length := by
    have := (State.storeByte_facts b (h.inv.room h.at_) (h.inv.count (by simp [h.at_]))).1
    simp [this, h.length]
  have length := h.inv.storeByte_length h.at_ b
  have bytes := h.storeByte_bytes b
  rw [Bool.eq_iff_iff, State.complete_iff, ← BitVec.toNat_inj, responseComplete, Bool.and_eq_true, decide_eq_true_eq,
    decide_eq_true_eq]
  rw [cnt] at length bytes ⊢
  refine and_congr_right fun two => ?_
  obtain ⟨most, exact_⟩ := length two
  rw [← byteAt_take (show 1 < (got ++ [b]).length by omega), bytes] at exact_
  omega

end Awaits

/-- The block after the response bytes `bs`: they are stored, on the wire, and no longer in the receive path. -/
def State.took (buf : Vector Byte 255) (cnt exp : BitVec 8) (bs : List Byte) (later : List ReceiveEvent) (s : State) : State :=
  { s with
    rxbuf := buf, rxcnt := cnt, rxexp := exp
    env := { s.env with receive := later }
    trace := s.trace ++ bs.map .rx }

/-- The window closes and VALIDATE is entered (R130). -/
def State.close (s : State) : State := { s with window := false, state := .validate }

theorem State.took_took (buf buf' : Vector Byte 255) (cnt cnt' exp exp' : BitVec 8) (bs bs' : List Byte)
    (later later' : List ReceiveEvent) (s : State) :
    (s.took buf cnt exp bs later).took buf' cnt' exp' bs' later' = s.took buf' cnt' exp' (bs ++ bs') later' := by
  simp [State.took]

/-- A byte that does not complete the response leaves the window open (R129). -/
theorem State.Awaits.step_more {s : State} {got : List Byte} (h : s.Awaits got) (waits : s.hostWaits) {b : Byte}
    {later : List ReceiveEvent} (next : s.env.receive = .byte b :: later)
    (short : responseComplete s.req.fc s.req.b (got ++ [b]) = false) :
    ∃ (buf : Vector Byte 255) (cnt exp : BitVec 8), step s = .next (s.took buf cnt exp [b] later) ∧
      (s.took buf cnt exp [b] later).Awaits (got ++ [b]) := by
  have stored := h.step_byte waits next
  have incomplete := ((h.withReceive later).storeByte_complete b).trans short
  rw [State.closeIfComplete, if_neg (ne_true_of_eq_false incomplete)] at stored
  exact ⟨_, _, _, stored, invariantKeptByEveryStep _ _ h.inv stored, h.at_, h.storeByte_bytes b⟩

/-- The byte that completes the response closes the window, and RXBUF holds the response (R130). -/
theorem State.Awaits.step_last {s : State} {got : List Byte} (h : s.Awaits got) (waits : s.hostWaits) {b : Byte}
    {later : List ReceiveEvent} (next : s.env.receive = .byte b :: later)
    (done : responseComplete s.req.fc s.req.b (got ++ [b]) = true) :
    ∃ (buf : Vector Byte 255) (cnt exp : BitVec 8),
      step s = .next (s.took buf cnt exp [b] later).close ∧ buf.toList.take exp.toNat = got ++ [b] := by
  have stored := h.step_byte waits next
  have complete := ((h.withReceive later).storeByte_complete b).trans done
  have all := (State.complete_iff.1 complete).2
  rw [State.closeIfComplete, if_pos complete] at stored
  exact ⟨_, _, _, stored, all ▸ (h.withReceive later).storeByte_bytes b⟩

/-- Bytes that do not complete the response are taken one a step. -/
theorem State.Awaits.run_bytes {s : State} {got : List Byte} (h : s.Awaits got) (waits : s.hostWaits) (bs : List Byte)
    {later : List ReceiveEvent} (next : s.env.receive = bs.map .byte ++ later)
    (short : responseComplete s.req.fc s.req.b (got ++ bs) = false) :
    ∃ (buf : Vector Byte 255) (cnt exp : BitVec 8), core.run bs.length s = .next (s.took buf cnt exp bs later) ∧
      (s.took buf cnt exp bs later).Awaits (got ++ bs) := by
  induction bs generalizing s got with
  | nil =>
    have same : s.took s.rxbuf s.rxcnt s.rxexp [] later = s := by
      rw [List.map_nil, List.nil_append] at next
      simp [State.took, ← next]
    refine ⟨s.rxbuf, s.rxcnt, s.rxexp, ?_⟩
    rw [same, List.append_nil]
    exact ⟨rfl, h⟩
  | cons b bs ih =>
    rw [List.append_cons] at short ⊢
    have shortNow : responseComplete s.req.fc s.req.b (got ++ [b]) = false := by
      rw [← Bool.not_eq_true] at short ⊢
      exact fun done => short (responseComplete_append bs done)
    obtain ⟨buf, cnt, exp, first, awaits⟩ := h.step_more waits next shortNow
    obtain ⟨buf', cnt', exp', rest, awaits'⟩ := ih awaits waits rfl short
    rw [State.took_took] at rest awaits'
    exact ⟨buf', cnt', exp', run_of_step first rest, awaits'⟩

/-- Of a response of the expected length no shorter part is complete (R130). -/
theorem responseComplete_init {fc : Byte} {b : Word} {init : List Byte} {last : Byte}
    (length : (init ++ [last]).length = expectedLength fc b (byteAt (init ++ [last]) 1)) :
    responseComplete fc b init = false := by
  rw [← Bool.not_eq_true]
  intro done
  simp only [responseComplete, Bool.and_eq_true, decide_eq_true_eq] at done
  rw [byteAt_append (by omega), List.length_append, List.length_singleton] at length
  omega

/-- R129, R130: a response of the expected length brings the block to VALIDATE, one byte a step, with the response in RXBUF. -/
theorem State.Awaits.run_response {s : State} (h : s.Awaits []) (waits : s.hostWaits) {rx : List Byte}
    {later : List ReceiveEvent} (next : s.env.receive = rx.map .byte ++ later)
    (length : rx.length = expectedLength s.req.fc s.req.b (byteAt rx 1)) :
    ∃ (buf : Vector Byte 255) (cnt exp : BitVec 8),
      core.run rx.length s = .next (s.took buf cnt exp rx later).close ∧
      (s.took buf cnt exp rx later).close.rxFrame = rx := by
  have five := (expectedLength_bounds (byteAt rx 1) (h.inv.count (by simp [h.at_]))).1
  rcases List.eq_nil_or_concat' rx with rfl | ⟨init, last, rfl⟩
  · rw [← length] at five
    simp at five
  · have done : responseComplete s.req.fc s.req.b (init ++ [last]) = true := by
      simp only [responseComplete, Bool.and_eq_true, decide_eq_true_eq]
      omega
    have short := responseComplete_init length
    obtain ⟨buf, cnt, exp, ran, awaits⟩ :=
      h.run_bytes waits init (later := .byte last :: later) (by simpa using next) short
    obtain ⟨buf', cnt', exp', closed, frame⟩ := awaits.step_last waits rfl done
    rw [State.took_took] at closed
    rw [List.length_append]
    exact ⟨buf', cnt', exp', run_add ran (run_one closed), frame⟩

/-! ## The whole transaction -/

@[simp] theorem State.conclude_state (r : TransactionResult) (s : State) : (s.conclude r).state = .idle := by
  cases r <;> rfl
@[simp] theorem State.conclude_host (r : TransactionResult) (s : State) : (s.conclude r).host = s.host := by
  cases r <;> rfl
@[simp] theorem State.conclude_env (r : TransactionResult) (s : State) : (s.conclude r).env = s.env := by
  cases r <;> rfl

/-- R190, R216, R28: the result of a transaction is read back from RESULT and RDATA. -/
theorem State.conclude_transactionResult {s : State} {r : TransactionResult} (op : s.req.op ≠ 0)
    (fits : ∀ p, r = .success p → p.length ≤ 125) : (s.conclude r).transactionResult = some r := by
  cases r with
  | failure k => cases k <;> exact if_pos ⟨rfl, op⟩
  | success p =>
    have length := fits p rfl
    have count : (BitVec.ofNat 8 p.length).toNat = p.length := by rw [BitVec.toNat_ofNat]; omega
    have payload : (s.succeed p).payload = p := by
      have stored := take_storeFrom p s.rdata 0 (by omega)
      rw [Nat.zero_add] at stored
      simpa [State.payload, count] using stored
    have read : (s.succeed p).transactionResult = some (.success (s.succeed p).payload) := if_pos ⟨rfl, op⟩
    rw [State.conclude, read, payload]

/-- `t` is where a transaction of `req` ends: in IDLE, with the result `r` presented; `host` and `env` are what is left of the
host's and the environment's lists. -/
structure State.Ended (t : State) (cfg : Cfg) (host : List Action) (req : Latches) (env : Env) (r : TransactionResult) :
    Prop where
  inv : t.Inv
  idle : t.state = .idle
  init : t.init = true
  cfg : t.cfg = cfg
  host : t.host = host
  req : t.req = req
  env : t.env = env
  result : t.transactionResult = some r

/-- R135, R181: from BUILD_FRAME, with the write ok, FLUSHED and a response of the expected length to come, the transaction ends
with the verdict of `validate` on that response. -/
theorem State.Inv.run_transaction {s : State} (h : s.Inv) (waits : s.hostWaits) (at_ : s.state = .buildFrame)
    (op : s.req.op ≠ 0) {writes : List WriteOutcome} {n : Nat} {rx : List Byte} {later : List ReceiveEvent}
    (env : s.env = { writes := .ok :: writes, flushes := n + 1, receive := rx.map .byte ++ later })
    (length : rx.length = expectedLength s.req.fc s.req.b (byteAt rx 1)) :
    ∃ (k : Nat) (t : State), core.run k s = .next t ∧
      t.Ended s.cfg s.host s.req { writes := writes, flushes := n, receive := later }
        (validate s.req.fc s.req.a s.req.b rx) := by
  have busy : s.state ≠ .idle := by simp [at_]
  have sent := h.run_transmitPhase waits at_ (congrArg Env.writes env) (congrArg Env.flushes env)
  have awaits : (s.transmitted writes n).Awaits [] := ⟨h.run sent, rfl, List.take_zero ..⟩
  obtain ⟨buf, cnt, exp, received, frame⟩ := awaits.run_response waits (congrArg Env.receive env) length
  have toValidate := run_add sent received
  have judged := (h.run toValidate).step_validate waits rfl
  rw [frame] at judged
  have ran := run_add toValidate (run_one judged)
  exact ⟨_, _, ran, {
    inv := h.run ran
    idle := by simp
    init := by rw [State.conclude_init]; exact h.busyInit busy
    cfg := by rw [State.conclude_cfg]; rfl
    host := by rw [State.conclude_host]; rfl
    req := by rw [State.conclude_req]; rfl
    env := by rw [State.conclude_env]; rfl
    result := State.conclude_transactionResult op fun p verdict =>
      length_le_of_validate_success (h.count busy) (h.function busy) verdict }⟩

/-- R100, R135: a command that the port accepts, and the host's wait for CMD_READY after it, run to the end of its
transaction. -/
theorem State.Inv.run_command {s : State} (h : s.Inv) {w : BitVec 36} {rest : List Action}
    (host : s.host = .command w :: .awaitReady :: rest) {op : BitVec 4} {fc : Byte} {a b : Word}
    (accepted : ∀ left, exec (decodeCommand w) (s.withHost left) = .next ((s.withHost left).accept op fc a b))
    (nonzero : op ≠ 0) {writes : List WriteOutcome} {n : Nat} {rx : List Byte} {later : List ReceiveEvent}
    (env : s.env = { writes := .ok :: writes, flushes := n + 1, receive := rx.map .byte ++ later })
    (length : rx.length = expectedLength fc b (byteAt rx 1)) :
    ∃ (k : Nat) (t : State), core.run k s = .next t ∧
      t.Ended s.cfg rest { op := op, fc := fc, a := a, b := b } { writes := writes, flushes := n, receive := later }
        (validate fc a b rx) := by
  have start : step s = .next ((s.withHost (.awaitReady :: rest)).accept op fc a b) := by
    rw [step_of_command host]
    exact accepted _
  have inv := invariantKeptByEveryStep _ _ h start
  obtain ⟨k, t, ran, ended⟩ := inv.run_transaction (.inr ⟨rest, rfl⟩) rfl nonzero env length
  have all := run_add (run_of_step start ran) (run_one (step_of_awaitReady_idle ended.host ended.idle))
  exact ⟨_, _, all, { ended with inv := h.run all, host := rfl }⟩

end Sys2Proof.Machine
end

section
/-! SUPPORT. A register write followed by a read, against a slave that echoes state (20_memory.md R48, 95_test_vectors.md
E3). -/

namespace Sys2Proof.Machine

/-- R69, R104: WRITE_SINGLE_REGISTER is accepted in IDLE with INIT = 1. -/
theorem exec_write_accepted {s : State} (idle : s.state = .idle) (init : s.init = true) (addr value : Word)
    (left : List Action) :
    exec (decodeCommand (commandWord 2 addr value)) (s.withHost left) =
      .next ((s.withHost left).accept 2 Config.fcWrite addr value) := by
  rw [decodeCommand_write]
  exact State.issue_accepted ⟨idle, init, rfl⟩

/-- R69, R103: so is READ_HOLDING_REGISTERS with a legal count. -/
theorem exec_read_accepted {s : State} (idle : s.state = .idle) (init : s.init = true) (start : Word) {count : Word}
    (legal : countLegal count = true) (left : List Action) :
    exec (decodeCommand (commandWord 1 start count)) (s.withHost left) =
      .next ((s.withHost left).accept 1 Config.fcRead start count) := by
  rw [decodeCommand_read]
  exact State.issue_accepted ⟨idle, init, legal⟩

/-- Settles O55: two transactions run to their ends; the slave echoes the first request and answers the second with the cell the
first one wrote. -/
theorem writeThenReadReturnsTheValue : Obligations.WriteThenReadReturnsTheValue := by
  intro s a v sl writes n later h idle init addr wf host env
  have echo := sl.respond_write a v
  have answer := Slave.respond_read { sl with cells := sl.cells.write a.toNat v } a 1
  rw [show (1 : Word).toNat = 1 from rfl, Cells.readMany_one, Cells.read_write_same a.toNat v wf] at answer
  rw [addr] at echo answer
  simp only [echo, answer, List.append_assoc] at env
  obtain ⟨j, t, ranWrite, wrote⟩ :=
    h.run_command host (exec_write_accepted idle init a v) (by decide) env (length_echo ..)
  rw [validate_echo] at wrote
  obtain ⟨m, u, ranRead, read⟩ :=
    wrote.inv.run_command wrote.host (exec_read_accepted wrote.idle wrote.init a (by decide)) (by decide) wrote.env
      (length_readAnswer_one ..)
  rw [validate_readAnswer_one] at read
  exact ⟨j, j + m, t, u, Nat.le_add_right .., ranWrite, wrote.idle, wrote.host, wrote.req, wrote.result,
    run_add ranWrite ranRead, read.idle, read.host, read.req, read.result, congrArg Env.receive read.env⟩

end Sys2Proof.Machine
end

section
/-! SUPPORT. The encodings (30_encoding.md): every command word is the encoding of a command, decoding undoes encoding at the
three places where an instruction appears, and the statements about words and frames. -/

namespace Sys2Proof

/-! ## Command words (R60) -/

/-- The upper bit of a reserved opcode is 1, its lower three bits are the instruction's (R71(a)). -/
theorem extract_low_commandWord (low : BitVec 3) (a b : Word) :
    (commandWord (1#1 ++ low) a b).extractLsb' 32 3 = low := by
  apply BitVec.eq_of_toNat_eq
  rw [BitVec.extractLsb'_toNat, Laws.EncodedShape.toNat_commandWord, Laws.EncodedShape.toNat_reserved,
    Nat.shiftRight_eq_div_pow]
  omega

theorem decodeCommand_reserved (low : BitVec 3) (a b : Word) :
    decodeCommand (commandWord (1#1 ++ low) a b) = .reservedOp low a b := by
  have reserved : decodeCommand (commandWord (1#1 ++ low) a b) =
      .reservedOp ((commandWord (1#1 ++ low) a b).extractLsb' 32 3) a b := by
    unfold decodeCommand
    rw [extract_op_commandWord, extract_a_commandWord, extract_b_commandWord, Laws.EncodedShape.toNat_reserved,
      Nat.add_comm]
    rfl
  rw [reserved, extract_low_commandWord]

/-- The decoder of the command port undoes the encoder. -/
theorem decodeCommand_of_encode {i : Instr} {w : BitVec 36} (h : encode i = .command w) : decodeCommand w = i := by
  cases i with
  | reservedOp low a b => cases h; exact decodeCommand_reserved low a b
  | fc3Request | fc6Request | fc3Response | fc6Response | exceptionResponseFc3 | exceptionResponseFc6
  | otherFunctionByte => cases h
  | _ => cases h; simp [decodeCommand]

/-- A 36-bit word is an opcode and two operands. -/
theorem exists_eq_commandWord (w : BitVec 36) : ∃ op a b, w = commandWord op a b := by
  refine ⟨w.extractLsb' 32 4, w.extractLsb' 16 16, w.extractLsb' 0 16, BitVec.eq_of_toNat_eq ?_⟩
  simp only [Laws.EncodedShape.toNat_commandWord, BitVec.extractLsb'_toNat, Nat.shiftRight_eq_div_pow]
  omega

/-- An opcode is one of the eight of R60 or reserved. -/
theorem opcode_cases (op : BitVec 4) :
    op = 0 ∨ op = 1 ∨ op = 2 ∨ op = 3 ∨ op = 4 ∨ op = 5 ∨ op = 6 ∨ op = 7 ∨ ∃ low : BitVec 3, op = 1#1 ++ low := by
  revert op
  decide

/-- Every command word is the encoding of a command. -/
theorem exists_encode_eq_command (w : BitVec 36) : ∃ i, encode i = .command w := by
  obtain ⟨op, a, b, rfl⟩ := exists_eq_commandWord w
  rcases opcode_cases op with rfl | rfl | rfl | rfl | rfl | rfl | rfl | rfl | ⟨low, rfl⟩
  · exact ⟨.initMaster a b, rfl⟩
  · exact ⟨.readHoldingRegisters a b, rfl⟩
  · exact ⟨.writeSingleRegister a b, rfl⟩
  · exact ⟨.readMotorTelemetry a b, rfl⟩
  · exact ⟨.setMotorSpeed a b, rfl⟩
  · exact ⟨.setMotorEnable a b, rfl⟩
  · exact ⟨.setMotorDirection a b, rfl⟩
  · exact ⟨.setMotorBrake a b, rfl⟩
  · exact ⟨.reservedOp low a b, rfl⟩

/-- And of the one it decodes to. -/
theorem encode_decodeCommand (w : BitVec 36) : encode (decodeCommand w) = .command w := by
  obtain ⟨i, hi⟩ := exists_encode_eq_command w
  rw [decodeCommand_of_encode hi, hi]

/-! ## Request frames (R62, R63) -/

/-- A word is its two bytes, the high one first (R68). -/
theorem toNat_eq_bytes (w : Word) : w.toNat = (hi8 w).toNat * 256 + (lo8 w).toNat := by
  rw [← toNat_joinBytes, joinBytes_hi8_lo8]

/-- The decoder of TXBUF undoes the encoder. -/
theorem decodeRequest_of_encode {i : Instr} {f : List Byte} (h : encode i = .request f) : decodeRequest f = .ok i := by
  cases i with
  | fc3Request slave start count crc => cases h; simp [decodeRequest, frame8]
  | fc6Request slave addr value crc => cases h; simp [decodeRequest, frame8]
  | _ => cases h

/-! ## Received frames (R64 to R67) -/

theorem decodeResponse_readFrame (slave byteCount : Byte) {values : List Word} (crc : Word)
    (least : 1 ≤ values.length) (most : values.length ≤ Config.maxCount) :
    decodeResponse Config.fcRead (readFrame slave byteCount values crc) = .ok (.fc3Response slave byteCount values crc) := by
  simp [decodeResponse, readFrame, decodeReadResponse, splitValues_wordBytes, least, most]

/-- What byte 1 of a frame of no class of the request in flight leaves to the decoder is its length (R67, R75). -/
theorem decodeResponse_other {fc function : Byte} (slave : Byte) {rest : List Byte} (normal : function ≠ fc)
    (exception : function ≠ fc ||| Config.excFlag) (length : responseLength function rest.length = true) :
    decodeResponse fc (slave :: function :: rest) = .ok (.otherFunctionByte slave function rest) := by
  rw [decodeResponse, if_neg (normal ·.2), if_neg (normal ·.2), if_neg (exception ·.2), if_neg (exception ·.2),
    if_pos length]

/-- The decoder of RXBUF undoes the encoder, under the REQ_FC the frame's class belongs to. -/
theorem decodeResponse_of_encode {i : Instr} {fc : Byte} {f : List Byte} (h : encode i = .response f)
    (wf : i.wellFormed = true) (under : i.receivedUnder fc = true) : decodeResponse fc f = .ok i := by
  cases i with
  | fc3Response slave byteCount values crc =>
    cases h
    obtain rfl : fc = Config.fcRead := by simpa [Instr.receivedUnder] using under
    obtain ⟨least, most⟩ : 1 ≤ values.length ∧ values.length ≤ Config.maxCount := by
      simpa [Instr.wellFormed] using wf
    exact decodeResponse_readFrame slave byteCount crc least most
  | fc6Response slave addr value crc =>
    cases h
    obtain rfl : fc = Config.fcWrite := by simpa [Instr.receivedUnder] using under
    simp [decodeResponse, frame8, decodeWriteResponse]
  | exceptionResponseFc3 slave code crc =>
    cases h
    obtain rfl : fc = Config.fcRead := by simpa [Instr.receivedUnder] using under
    simp [decodeResponse, frame5, decodeException]
  | exceptionResponseFc6 slave code crc =>
    cases h
    obtain rfl : fc = Config.fcWrite := by simpa [Instr.receivedUnder] using under
    simp [decodeResponse, frame5, decodeException]
  | otherFunctionByte slave function rest =>
    cases h
    obtain ⟨normal, exception⟩ : function ≠ fc ∧ function ≠ fc ||| Config.excFlag := by
      simpa [Instr.receivedUnder] using under
    exact decodeResponse_other slave normal exception wf
  | _ => cases h

end Sys2Proof

namespace Sys2Proof.Machine

/-! ## The obligations -/

/-- Settles O7: each of the three decoders undoes the encoder, and every command word is an encoding. -/
theorem decodeEncodeAgree : Obligations.DecodeEncodeAgree := by
  refine ⟨fun i fc wf under => ?_, encode_decodeCommand⟩
  cases h : encode i with
  | command w => exact congrArg Except.ok (decodeCommand_of_encode h)
  | request f => exact decodeRequest_of_encode h
  | response f => exact decodeResponse_of_encode h wf under

/-- Settles O6: the bytes are the halves of the two fields and of the CRC. -/
theorem requestFrameLayout : Obligations.RequestFrameLayout := by
  intro slave fc a b
  exact ⟨hi8 a, lo8 a, hi8 b, lo8 b, lo8 _, hi8 _, rfl, toNat_eq_bytes a, toNat_eq_bytes b, toNat_eq_bytes _⟩

/-- Settles O8: the decoder, run on the ten words. -/
theorem specWordsDecode : Obligations.SpecWordsDecode :=
  ⟨rfl, rfl, rfl, rfl, rfl, rfl, rfl, rfl, rfl, rfl⟩

end Sys2Proof.Machine
end

section
/-! SUPPORT. The command port refuses (30_encoding.md R71, R73; 41_master_operations.md R101): a command that is busy or ill
formed is refused whatever it is, a word on a ground of R71 decodes to an ill-formed command, and the operand bits no command
reads. -/

namespace Sys2Proof.Machine

/-! ## Refusal -/

/-- A Boolean motor command is refused while the block is busy or has INIT = 0, and where its parameter is absent (R71(c)). -/
theorem State.issueBoolean_refused {s : State} {op : BitVec 4} {map : Option Word} {valT valF a : Word}
    (h : s.state ≠ .idle ∨ (!s.init || map.isNone) = true) : s.issueBoolean op map valT valF a = .next s.refuse := by
  cases map with
  | none => rfl
  | some addr =>
    refine State.issue_refused fun ⟨idle, init, _⟩ => ?_
    simp [idle, init] at h

/-- R71, R101: a command that is busy or ill formed is refused. -/
theorem exec_refused {i : Instr} {w : BitVec 36} {s : State} (hw : encode i = .command w)
    (h : s.state ≠ .idle ∨ commandIllFormed s i = true) : exec i s = .next s.refuse := by
  cases i with
  | initMaster a b =>
    refine if_neg fun ⟨idle, ready⟩ => ?_
    simp [idle, commandIllFormed, ready] at h
  | readHoldingRegisters start count =>
    refine State.issue_refused fun ⟨idle, init, legal⟩ => ?_
    simp [idle, commandIllFormed, init, legal] at h
  | writeSingleRegister | readMotorTelemetry | setMotorSpeed =>
    refine State.issue_refused fun ⟨idle, init, _⟩ => ?_
    simp [idle, commandIllFormed, init] at h
  | setMotorEnable | setMotorDirection | setMotorBrake => exact State.issueBoolean_refused h
  | reservedOp => rfl
  | fc3Request | fc6Request | fc3Response | fc6Response | exceptionResponseFc3 | exceptionResponseFc6
  | otherFunctionByte => cases hw

/-! ## The grounds of R71, on the word -/

/-- The grounds (a) to (e) of R71, on the numbers `op` and `count` that the word has for its opcode and its operand B. -/
def IllFormedFields (op count : Nat) (s : State) : Prop :=
  8 ≤ op ∨
  (op = 1 ∧ (count = 0 ∨ 125 < count)) ∨
  (op = 5 ∧ s.params.mapEnable = none) ∨
  (op = 6 ∧ s.params.mapDirection = none) ∨
  (op = 7 ∧ s.params.mapBrake = none) ∨
  (op = 0 ∧ (s.init = true ∨ s.cfg.slaveAddr.toNat = 0 ∨ 247 < s.cfg.slaveAddr.toNat ∨ s.cfg.wrPmax = false ∨
    s.cfg.wrTimeout = false)) ∨
  (op ≠ 0 ∧ s.init = false)

theorem toNat_commandWord_div (op : BitVec 4) (a b : Word) : (commandWord op a b).toNat / 2 ^ 32 = op.toNat :=
  Laws.EncodedShape.isCommand_commandWord op a b

theorem toNat_commandWord_mod (op : BitVec 4) (a b : Word) : (commandWord op a b).toNat % 2 ^ 16 = b.toNat := by
  have := Laws.EncodedShape.toNat_commandWord op a b
  omega

/-- R71(b), on the count's number. -/
theorem countLegal_eq_false_iff (count : Word) :
    countLegal count = false ↔ count.toNat = 0 ∨ 125 < count.toNat := by
  simp [countLegal, Config.maxCount]
  omega

/-- R71(d), on the registers. -/
theorem State.initializable_eq_false_iff (s : State) :
    s.initializable = false ↔ s.init = true ∨ s.cfg.slaveAddr.toNat = 0 ∨ 247 < s.cfg.slaveAddr.toNat ∨
      s.cfg.wrPmax = false ∨ s.cfg.wrTimeout = false := by
  simp only [State.initializable, Config.slaveAddrLegal, Bool.and_eq_false_iff, Bool.not_eq_false', decide_eq_false_iff_not,
    not_le, Nat.lt_one_iff, or_assoc]

/-- The model's test of a command says what R71 says of its word. -/
theorem commandIllFormed_iff {i : Instr} {w : BitVec 36} (hw : encode i = .command w) (s : State) :
    commandIllFormed s i = true ↔ IllFormedFields (w.toNat / 2 ^ 32) (w.toNat % 2 ^ 16) s := by
  cases i with
  | initMaster =>
    cases hw
    rw [toNat_commandWord_div, toNat_commandWord_mod]
    simp [commandIllFormed, IllFormedFields, State.initializable_eq_false_iff]
  | readHoldingRegisters =>
    cases hw
    rw [toNat_commandWord_div, toNat_commandWord_mod]
    simp [commandIllFormed, IllFormedFields, countLegal_eq_false_iff, or_comm]
  | writeSingleRegister | readMotorTelemetry | setMotorSpeed =>
    cases hw
    rw [toNat_commandWord_div]
    simp [commandIllFormed, IllFormedFields]
  | setMotorEnable | setMotorDirection | setMotorBrake =>
    cases hw
    rw [toNat_commandWord_div]
    simp [commandIllFormed, IllFormedFields, or_comm]
  | reservedOp =>
    cases hw
    rw [toNat_commandWord_div, Laws.EncodedShape.toNat_reserved]
    simp [commandIllFormed, IllFormedFields]
  | fc3Request | fc6Request | fc3Response | fc6Response | exceptionResponseFc3 | exceptionResponseFc6
  | otherFunctionByte => cases hw

/-! ## Operand bits that are ignored (R73) -/

/-- A Boolean command reads bit 0 of A alone. -/
theorem booleanValue_congr {a a' : Word} (h : a.toNat % 2 = a'.toNat % 2) (valT valF : Word) :
    booleanValue a valT valF = booleanValue a' valT valF := by
  have bit : a.getLsbD 0 = a'.getLsbD 0 := by simp only [BitVec.getLsbD, Nat.testBit_zero, h]
  rw [booleanValue, booleanValue, bit]

theorem State.issueBoolean_congr {a a' : Word} (h : a.toNat % 2 = a'.toNat % 2) (s : State) (op : BitVec 4)
    (map : Option Word) (valT valF : Word) : s.issueBoolean op map valT valF a = s.issueBoolean op map valT valF a' := by
  simp only [State.issueBoolean, booleanValue_congr h]

/-! ## The obligations -/

/-- Settles O15: a word on a ground of R71 is that of an ill-formed command, which is refused. -/
theorem illFormedOrBusyCommandRefused : Obligations.IllFormedOrBusyCommandRefused := by
  intro w s h
  have hw := encode_decodeCommand w
  exact exec_refused hw (h.imp_right (commandIllFormed_iff hw s).mpr)

/-- Settles O16: the arm of a reserved opcode is the refusal. -/
theorem reservedOpcodeRefused : Obligations.ReservedOpcodeRefused := by
  intro low a b s
  exact exec_refused rfl (.inr rfl)

/-- Settles O17: the arms of these commands do not read the operands, or read bit 0 alone. -/
theorem ignoredOperandBitsHaveNoEffect : Obligations.IgnoredOperandBitsHaveNoEffect := by
  intro a b a' b' s
  refine ⟨rfl, rfl, rfl, fun h => ⟨?_, ?_, ?_⟩⟩ <;> exact State.issueBoolean_congr h ..

end Sys2Proof.Machine
end

section
/-! SUPPORT. Request frames at the transmitter (40_transport_adapter.md R92): the write of each outcome as one equation, and the
statements about TRANSMIT (42_transaction_sequencer.md R124, R125). -/

namespace Sys2Proof.Machine

/-! ## The write, outcome by outcome -/

/-- In TRANSMIT a request frame's meaning is the write of its bytes. -/
theorem exec_request_of_transmit {i : Instr} {f : List Byte} {s : State} (hf : encode i = .request f)
    (at_ : s.state = .transmit) : exec i s = .next (s.writeBytes f) := by
  rw [exec_request s hf, State.transmitFrame, if_pos at_]

/-- A listed outcome is used up; a free one advances the counter (log entry 22). -/
theorem State.dropWrite_eq (s : State) : s.dropWrite = { s with
    env := { s.env with writes := s.env.writes.tail }
    freeCount := if s.env.writes = [] then s.freeCount + 1 else s.freeCount } := by
  simp only [State.dropWrite, List.isEmpty_iff]

/-- R125, R127: a write that the environment breaks off sends the bytes before the fault, and RECEIVE is entered. -/
theorem State.writeBytes_fault {s : State} {k : Fin 9} {writes : List WriteOutcome}
    (env : s.env.writes = .fault k :: writes) (f : List Byte) : s.writeBytes f = { s with
      env := { s.env with writes := writes }, txErr := true, state := .receive, dir := .low
      trace := s.trace ++ (txEvents (f.take k.val) ++ [.txFault, .dir .low]) } := by
  rcases s.nextWrite_cases with ⟨later, head, drop⟩ | ⟨empty, -⟩
  · obtain ⟨fault, rfl⟩ := List.cons.inj (env.symm.trans head)
    rw [State.writeBytes, ← fault, drop]
    simp [State.emitAll, State.enterReceive, State.setDirection, State.emit, Mode.level]
  · simp [empty] at env

/-! ## The obligations -/

/-- Settles O56: the outcome is the environment's next one, and `write_bytes` has no third. -/
theorem writeAlwaysReturns : Obligations.WriteAlwaysReturns := by
  intro i f s hf at_
  refine ⟨s.nextWrite, ?_, ?_⟩
  · rcases s.nextWrite_cases with ⟨later, listed, -⟩ | ⟨empty, -⟩
    · exact .inr ⟨later, listed⟩
    · exact .inl empty
  · rw [exec_request_of_transmit hf at_]
    rcases s.writeBytes_cases f with ⟨ok, written⟩ | ⟨k, fault, written⟩
    · rw [written, ok, State.dropWrite_eq, txEvents]
    · rw [written, fault, State.dropWrite_eq, txEvents, List.append_assoc, List.append_assoc]
      rfl

/-- Settles O19: both frames are written whole. -/
theorem requestFrameTransmitted : Obligations.RequestFrameTransmitted := by
  intro slave a b crc s later at_ env
  constructor <;> rw [exec_request_of_transmit rfl at_, State.writeBytes_ok env] <;> rfl

/-- Settles O20: both frames are written up to the fault. -/
theorem requestFrameTransmitFault : Obligations.RequestFrameTransmitFault := by
  intro slave a b crc s k later at_ env
  constructor <;> rw [exec_request_of_transmit rfl at_, State.writeBytes_fault env] <;> rfl

end Sys2Proof.Machine
end

section
/-! SUPPORT. The command port accepts (41_master_operations.md R100, R102 to R109): what each command requires, the state it
leaves, and what BUILD_FRAME then makes of a SET_MOTOR_SPEED (42_transaction_sequencer.md R122). -/

namespace Sys2Proof.Machine

/-! ## The operands (30_encoding.md R69, R71) -/

/-- R71(b): the counts of a read that are not ill formed. -/
theorem countLegal_iff (count : Word) : countLegal count = true ↔ 1 ≤ count.toNat ∧ count.toNat ≤ 125 := by
  simp [countLegal, Config.maxCount]

/-- R70: the legal slave addresses. -/
theorem slaveAddrLegal_iff (a : Byte) : Config.slaveAddrLegal a = true ↔ 1 ≤ a.toNat ∧ a.toNat ≤ 247 := by
  simp [Config.slaveAddrLegal]

/-- R111(a): the clamp is the unsigned minimum. -/
theorem toNat_clampSpeed (value protocolMax : Word) :
    (clampSpeed value protocolMax).toNat = min value.toNat protocolMax.toNat := by
  rw [clampSpeed, Nat.min_def]
  split <;> rfl

/-- R69: the Boolean operand is the parity of A. -/
theorem booleanValue_eq (a valT valF : Word) : booleanValue a valT valF = if a.toNat % 2 = 1 then valT else valF := by
  simp [booleanValue, BitVec.getLsbD, Nat.testBit_zero]

/-! ## Acceptance -/

/-- R102: INITIALIZE is accepted in IDLE when its registers are ready. -/
theorem exec_initMaster_accepted {s : State} (idle : s.state = .idle) (ready : s.initializable = true) (a b : Word) :
    exec (.initMaster a b) s = .next s.initialized := if_pos ⟨idle, ready⟩

/-- R106: SET_MOTOR_SPEED is accepted as a write of the clamped value. -/
theorem exec_setMotorSpeed_accepted {s : State} (idle : s.state = .idle) (init : s.init = true) (value b : Word) :
    exec (.setMotorSpeed value b) s =
      .next (s.accept 4 Config.fcWrite s.cfg.mapSetSpeed (clampSpeed value s.cfg.protocolMax)) :=
  State.issue_accepted ⟨idle, init, rfl⟩

/-- R107 to R109: a Boolean motor command with its parameter present is accepted as a write of the value bit 0 of A chooses. -/
theorem State.issueBoolean_accepted {s : State} (idle : s.state = .idle) (init : s.init = true) {map : Option Word}
    {addr : Word} (present : map = some addr) (op : BitVec 4) (valT valF a : Word) :
    s.issueBoolean op map valT valF a =
      .next (s.accept op Config.fcWrite addr (if a.toNat % 2 = 1 then valT else valF)) := by
  rw [present, ← booleanValue_eq]
  exact State.issue_accepted ⟨idle, init, rfl⟩

/-! ## The obligations -/

/-- Settles O18: acceptance latches the clamped value, and BUILD_FRAME fills TXBUF with the frame of the latches. -/
theorem transmittedSpeedIsClamped : Obligations.TransmittedSpeedIsClamped := by
  intro value b s idle init host
  have filled := toList_storeFrom_full
    (encodeRequest s.cfg.slaveAddr Config.fcWrite s.cfg.mapSetSpeed (clampSpeed value s.cfg.protocolMax)) s.txbuf rfl
  exact ⟨_, _, clampSpeed value s.cfg.protocolMax, exec_setMotorSpeed_accepted idle init value b,
    step_buildFrame (.inl host) rfl, toNat_clampSpeed .., rfl, filled⟩

/-- Settles O9: the conditions make the command `initializable`, and each broken one makes it ill formed (R71(d)). -/
theorem initializeAcceptedOrRefused : Obligations.InitializeAcceptedOrRefused := by
  intro a b s
  refine ⟨fun idle fresh least most pmax timeout => ?_, fun h => ?_⟩
  · have legal := (slaveAddrLegal_iff s.cfg.slaveAddr).mpr ⟨least, most⟩
    exact exec_initMaster_accepted idle (State.initializable_iff.mpr ⟨fresh, legal, pmax, timeout⟩) a b
  · have illFormed (broken : s.initializable = false) : commandIllFormed s (.initMaster a b) = true := by
      rw [commandIllFormed, broken, Bool.not_false]
    exact exec_refused rfl (h.imp_right fun ground => illFormed (s.initializable_eq_false_iff.mpr ground))

/-- Settles O10: a count in range is legal, so the port accepts the read. -/
theorem readHoldingRegistersAccepted : Obligations.ReadHoldingRegistersAccepted := by
  intro start count s idle init least most
  exact State.issue_accepted ⟨idle, init, (countLegal_iff count).mpr ⟨least, most⟩⟩

/-- Settles O11: the port has no further condition on a write. -/
theorem writeSingleRegisterAccepted : Obligations.WriteSingleRegisterAccepted := by
  intro addr value s idle init
  exact State.issue_accepted ⟨idle, init, rfl⟩

/-- Settles O12: the port has no further condition on telemetry, and the operands latched are the block's own. -/
theorem readMotorTelemetryAccepted : Obligations.ReadMotorTelemetryAccepted := by
  intro a b s idle init
  exact State.issue_accepted ⟨idle, init, rfl⟩

/-- Settles O13: the value latched is the clamped one. -/
theorem setMotorSpeedAccepted : Obligations.SetMotorSpeedAccepted := by
  intro value b s idle init
  exact ⟨clampSpeed value s.cfg.protocolMax, toNat_clampSpeed .., exec_setMotorSpeed_accepted idle init value b⟩

/-- Settles O14: one rule for the three commands, at each command's parameter and values. -/
theorem booleanMotorCommandsAccepted : Obligations.BooleanMotorCommandsAccepted := by
  intro a b addr s idle init
  refine ⟨fun present => ?_, fun present => ?_, fun present => ?_⟩
  · exact State.issueBoolean_accepted idle init present 5 s.params.valEnableT s.params.valEnableF a
  · exact State.issueBoolean_accepted idle init present 6 s.params.valDirectionT s.params.valDirectionF a
  · exact State.issueBoolean_accepted idle init present 7 s.params.valBrakeT s.params.valBrakeF a

end Sys2Proof.Machine
end

section
/-! SUPPORT. The half-duplex order of the wire trace (42_transaction_sequencer.md R136, 95_test_vectors.md E4): how the order and
the line carry over to a longer trace, and that every step appends only what the line allows. -/

namespace Sys2Proof.Machine

/-! ## A longer trace -/

/-- The line after two traces is the line after the second, which starts where the first has left it. -/
@[simp] theorem lineAfter_append (l : Option Level) (es fs : List WireEvent) :
    lineAfter l (es ++ fs) = lineAfter (lineAfter l es) fs := by
  induction es generalizing l with
  | nil => rfl
  | cons e es ih => cases e <;> exact ih _

/-- Two traces are in order if each is, the second from the line the first has left. -/
@[simp] theorem busOrdered_append (l : Option Level) (es fs : List WireEvent) :
    busOrdered l (es ++ fs) = (busOrdered l es && busOrdered (lineAfter l es) fs) := by
  induction es generalizing l with
  | nil => rfl
  | cons e es ih => cases e <;> simp [busOrdered, lineAfter, ih, Bool.and_assoc]

/-- Sent bytes leave the line as it is. -/
@[simp] theorem lineAfter_txEvents (l : Option Level) (f : List Byte) : lineAfter l (txEvents f) = l := by
  induction f with
  | nil => rfl
  | cons b f ih => exact ih

/-- Bytes may be sent while the line is HIGH. -/
@[simp] theorem busOrdered_txEvents (f : List Byte) : busOrdered (some .high) (txEvents f) = true := by
  induction f with
  | nil => rfl
  | cons b f ih => exact ih

/-! ## What a step appends -/

/-- The order is kept where the events appended fit the line so far and leave it as the new state needs it. -/
theorem State.HalfDuplex.of_appended {s t : State} (h : s.HalfDuplex) {es : List WireEvent}
    (trace : t.trace = s.trace ++ es) (ordered : busOrdered (lineAfter none s.trace) es = true)
    (transmitting : t.state = .transmit ∨ t.state = .flushTransmit → lineAfter (lineAfter none s.trace) es = some .high)
    (receiving : t.state = .receive ∨ t.state = .awaitResponse → lineAfter (lineAfter none s.trace) es = some .low) :
    t.HalfDuplex where
  ordered := by rw [trace, busOrdered_append, h.ordered, ordered]; rfl
  transmitting := by rwa [trace, lineAfter_append]
  receiving := by rwa [trace, lineAfter_append]

/-- The order looks at the trace and at STATE only. -/
theorem State.HalfDuplex.of_same {s t : State} (h : s.HalfDuplex) (trace : t.trace = s.trace) (state : t.state = s.state) :
    t.HalfDuplex :=
  h.of_appended (es := []) (by simp [trace]) rfl (state ▸ h.transmitting) (state ▸ h.receiving)

/-- Where the new state needs no level of the line, the events appended only have to fit the line so far. -/
theorem State.HalfDuplex.of_unused {s t : State} (h : s.HalfDuplex) {es : List WireEvent} (trace : t.trace = s.trace ++ es)
    (ordered : busOrdered (lineAfter none s.trace) es = true)
    (unused : t.state = .idle ∨ t.state = .buildFrame ∨ t.state = .validate) : t.HalfDuplex := by
  refine h.of_appended trace ordered ?_ ?_ <;> rcases unused with e | e | e <;> simp [e]

/-- With nothing appended either. -/
theorem State.HalfDuplex.of_silent {s t : State} (h : s.HalfDuplex) (trace : t.trace = s.trace)
    (unused : t.state = .idle ∨ t.state = .buildFrame ∨ t.state = .validate) : t.HalfDuplex :=
  h.of_unused (es := []) (by simp [trace]) rfl unused

/-- R241: reset shows at most bytes of a frame whose transmission it cuts off, for which the line is HIGH. -/
theorem State.HalfDuplex.assertReset {s : State} (h : s.HalfDuplex) (sent : Fin 9) : (s.assertReset sent).HalfDuplex := by
  refine h.of_unused rfl ?_ (.inl rfl)
  split
  · rename_i tx
    rw [h.transmitting (.inl tx), busOrdered_txEvents]
  · rfl

/-- A command drives the line at most, and only in IDLE (R102). -/
theorem CommandCase.halfDuplex {s t : State} (ran : CommandCase s t) (h : s.HalfDuplex) : t.HalfDuplex := by
  cases ran with
  | refused => exact h.of_same rfl rfl
  | initialized idle => exact h.of_unused (es := [.dir .low]) rfl rfl (.inl idle)
  | accepted => exact h.of_silent rfl (.inr (.inl rfl))

/-- R92: bytes and a transmit fault come while the line is HIGH; after the fault it goes LOW (R125, R127). -/
theorem State.HalfDuplex.writeBytes {s : State} (h : s.HalfDuplex) (at_ : s.state = .transmit) (f : List Byte) :
    (s.writeBytes f).HalfDuplex := by
  have high := h.transmitting (.inl at_)
  rcases s.writeBytes_cases f with ⟨-, e⟩ | ⟨k, -, e⟩ <;> rw [e]
  · exact h.of_appended (es := txEvents f) rfl (by simp [high]) (by simp [high]) (by simp)
  · exact h.of_appended (es := txEvents (f.take k.val) ++ [.txFault, .dir .low]) (by simp)
      (by simp [high, busOrdered]) (by simp) (by simp [lineAfter])

/-- A byte comes while the line is LOW, and the line stays so (R129, R130). -/
theorem State.HalfDuplex.storeByte {s : State} (h : s.HalfDuplex) (at_ : s.state = .awaitResponse) (b : Byte) :
    (State.storeByte b s).closeIfComplete.HalfDuplex := by
  have low := h.receiving (.inr at_)
  have stored : (State.storeByte b s).HalfDuplex := by
    have stays : (State.storeByte b s).state = .awaitResponse := at_
    exact h.of_appended (es := [.rx b]) rfl (by simp [low, busOrdered]) (by simp [stays]) (by simp [low, lineAfter])
  rcases (State.storeByte b s).closeIfComplete_cases with ⟨-, e⟩ | ⟨-, e⟩ <;> rw [e]
  · exact stored.of_silent rfl (.inr (.inr rfl))
  · exact stored

/-- The verdict on a frame shows nothing on the wire (R190, R216). -/
@[simp] theorem State.conclude_trace (r : TransactionResult) (s : State) : (s.conclude r).trace = s.trace := by
  cases r <;> rfl

/-- The sequencer's own step keeps the order (R121, R122, R126 to R131, R134). -/
theorem AdvanceCase.halfDuplex {s t : State} (ran : AdvanceCase s t) (h : s.HalfDuplex) : t.HalfDuplex := by
  cases ran with
  | waiting => exact h
  | built => exact h.of_appended (es := [.dir .high]) rfl rfl (fun _ => rfl) (by simp)
  | flushed at_ =>
    have high := h.transmitting (.inr at_)
    exact h.of_appended (es := [.flushed, .dir .low]) rfl (by simp [high, busOrdered]) (by simp) (fun _ => rfl)
  | ioError => exact h.of_silent rfl (.inl rfl)
  | opened at_ =>
    exact h.of_appended (es := []) (by simp) rfl (by simp) (fun _ => h.receiving (.inl at_))
  | closed => exact h.of_silent rfl (.inr (.inr rfl))
  | byte at_ _ _ b later =>
    have sameButPath : ({ s with env := { s.env with receive := later } } : State).HalfDuplex := h.of_same rfl rfl
    exact sameButPath.storeByte at_ b
  | timeout at_ =>
    have low := h.receiving (.inr at_)
    exact h.of_unused (es := [.timeout]) rfl (by simp [low, busOrdered]) (.inl rfl)
  | returned => exact h.of_silent rfl (.inl rfl)

/-- So does every step of the block. -/
theorem BlockCase.halfDuplex {s t : State} (ran : BlockCase s t) (h : s.HalfDuplex) : t.HalfDuplex := by
  rcases ran.transmit_or_validate_or_advance with ⟨at_, rfl⟩ | ⟨-, rfl⟩ | adv
  · exact h.writeBytes at_ _
  · exact h.of_silent (State.conclude_trace ..) (.inl (State.conclude_state ..))
  · exact adv.halfDuplex h

/-! ## The obligation -/

/-- Settles O46: the host's actions and reset by the lemmas above, the block's step case by case. -/
theorem halfDuplexOrderKept : Obligations.HalfDuplexOrderKept := by
  intro s t h hs
  have ofHost (later : List Action) : ({ s with host := later } : State).HalfDuplex := h.of_same rfl rfl
  cases step_cases hs with
  | command w later _ _ ran => exact ran.halfDuplex (ofHost later)
  | writeReg n v later _ =>
    rw [State.writeReg_eq]
    exact h.of_same rfl rfl
  | readReg n later _ => exact h.of_same rfl rfl
  | reset sent later _ => exact (ofHost later).assertReset sent
  | ready later _ _ => exact ofHost later
  | block later _ _ ran => exact ran.halfDuplex (ofHost later)

end Sys2Proof.Machine
end

section
/-! SUPPORT. The sequencer's steps one by one (42_transaction_sequencer.md R121 to R134), the edges of the transition table they
take (R120), and the end of the response window (R132). -/

namespace Sys2Proof.Machine

/-! ## The steps that run no frame -/

/-- With an idle host the sequencer takes the step of its state (R120). -/
theorem step_of_advance {s : State} (host : s.host = []) (tx : s.state ≠ .transmit) (val : s.state ≠ .validate) :
    step s = .next s.advance := by
  rw [step_of_host_nil host, State.fetchBlock_advance tx val]
  rfl

/-- R127, R216: with a transmit fault RECEIVE ends the transaction. -/
theorem step_receive_fault {s : State} (host : s.host = []) (at_ : s.state = .receive) (fault : s.txErr = true) :
    step s = .next (s.takeFailure .ioError) := by
  rw [step_of_advance host (by simp [at_]) (by simp [at_])]
  simp [State.advance, at_, State.receiveTurn, fault]

/-- R131, R97(b): TIMEOUT, listed or because no byte comes any more, ends an incomplete response. -/
theorem step_timeout {s : State} (waits : s.hostWaits) (at_ : s.state = .awaitResponse) (notDone : s.complete = false)
    {later : List ReceiveEvent} (next : s.env.receive = .timeout :: later ∨ s.env.receive = [] ∧ later = []) :
    step s = .next (State.windowTimeout { s with env := { s.env with receive := later } }) := by
  rw [step_awaitResponse waits at_, State.awaitTurn, notDone]
  rcases next with listed | ⟨empty, rfl⟩
  · rw [listed]
    rfl
  · have same : ({ s with env := { s.env with receive := [] } } : State) = s := by rw [← empty]
    rw [same, empty]
    rfl

/-- R129, R130: in AWAIT_RESPONSE the next byte of the receive path is stored. -/
theorem State.Inv.step_byte {s : State} (h : s.Inv) (waits : s.hostWaits) (at_ : s.state = .awaitResponse) {b : Byte}
    {later : List ReceiveEvent} (next : s.env.receive = .byte b :: later) :
    step s = .next (State.storeByte b { s with env := { s.env with receive := later } }).closeIfComplete :=
  State.Awaits.step_byte ⟨h, at_, rfl⟩ waits next

/-- R129, R130: the byte stored and, with the last one, the window closed, as one update of the state. -/
theorem State.Inv.storeByte_eq {s : State} (h : s.Inv) (at_ : s.state = .awaitResponse) (b : Byte) :
    (State.storeByte b s).closeIfComplete = { s with
      rxbuf := (State.storeByte b s).rxbuf, rxcnt := (State.storeByte b s).rxcnt, rxexp := (State.storeByte b s).rxexp
      trace := s.trace ++ [.rx b]
      state := if 2 ≤ s.rxcnt.toNat + 1 ∧ s.rxcnt.toNat + 1 = (State.storeByte b s).rxexp.toNat then .validate
        else .awaitResponse
      window := decide (¬ (2 ≤ s.rxcnt.toNat + 1 ∧ s.rxcnt.toNat + 1 = (State.storeByte b s).rxexp.toNat)) } := by
  have cnt := (State.storeByte_facts b (h.room at_) (h.count (by simp [at_]))).1
  have complete := State.complete_iff (s := State.storeByte b s)
  rw [← BitVec.toNat_inj, cnt] at complete
  rcases (State.storeByte b s).closeIfComplete_cases with ⟨done, e⟩ | ⟨notDone, e⟩ <;> rw [e]
  · have all := complete.1 done
    rw [if_pos all, decide_eq_false (not_not.2 all)]
    rfl
  · have short := mt complete.2 (ne_true_of_eq_false notDone)
    rw [if_neg short, decide_eq_true short]
    simp [State.storeByte, State.emit, at_, h.windowOpen.2 at_]

/-! ## The transition table (R120) -/

/-- No edge of the table, and no two edges through ERROR_REPORTED, lead back to the state they start from. -/
theorem ne_of_transitionTaken {a b : SeqState} (taken : transitionTaken a b = true) : b ≠ a := by
  rintro rfl
  revert taken
  cases b <;> decide

/-- A command leaves STATE or takes the edge from IDLE to BUILD_FRAME. -/
theorem CommandCase.transition {s t : State} (ran : CommandCase s t) :
    t.state = s.state ∨ transitionTaken s.state t.state = true := by
  cases ran with
  | refused => exact .inl rfl
  | initialized => exact .inl rfl
  | accepted _ _ _ _ idle => exact .inr (by rw [idle]; rfl)

/-- The sequencer's own step takes an edge of the table, or stays where an event may be awaited. -/
theorem AdvanceCase.transition {s t : State} (ran : AdvanceCase s t) :
    transitionTaken s.state t.state = true ∨ t.state = s.state ∧ mayKeepState s.state = true := by
  cases ran with
  | waiting at_ => exact .inr ⟨rfl, by rcases at_ with at_ | ⟨at_, -⟩ <;> rw [at_] <;> rfl⟩
  | byte at_ _ _ b later =>
    rcases State.closeIfComplete_cases (State.storeByte b { s with env := { s.env with receive := later } })
      with ⟨-, e⟩ | ⟨-, e⟩ <;> rw [e]
    · exact .inl (by rw [at_]; rfl)
    · exact .inr ⟨rfl, by rw [at_]; rfl⟩
  | built at_ | flushed at_ | ioError at_ | opened at_ | closed at_ | timeout at_ | returned at_ =>
    exact .inl (by rw [at_]; rfl)

/-- So does every step of the block. -/
theorem BlockCase.transition {s t : State} (ran : BlockCase s t) :
    transitionTaken s.state t.state = true ∨ t.state = s.state ∧ mayKeepState s.state = true := by
  rcases ran.transmit_or_validate_or_advance with ⟨at_, rfl⟩ | ⟨at_, rfl⟩ | adv
  · rcases s.writeBytes_cases s.txFrame with ⟨-, e⟩ | ⟨k, -, e⟩ <;> exact .inl (by rw [e, at_]; rfl)
  · exact .inl (by rw [State.conclude_state, at_]; rfl)
  · exact adv.transition

/-! ## The end of the response window (R132) -/

/-- A result is presented (R25, R133). -/
@[simp] theorem State.conclude_done (r : TransactionResult) (s : State) : (s.conclude r).result.done = true := by
  cases r <;> rfl

/-- With an idle host every open window ends in IDLE with a result: each byte of the receive path takes a step, and one more
step takes the TIMEOUT or judges the response. -/
theorem State.Inv.run_awaitResponse {s : State} (h : s.Inv) (host : s.host = []) (at_ : s.state = .awaitResponse) :
    ∃ (k : Nat) (t : State), k ≤ s.env.receive.length + 1 ∧ core.run k s = .next t ∧ t.state = .idle ∧
      t.result.done = true := by
  induction path : s.env.receive generalizing s with
  | nil =>
    have ended := step_timeout (.inl host) at_ (h.not_complete at_) (.inr ⟨path, rfl⟩)
    exact ⟨1, _, by simp, run_one ended, rfl, rfl⟩
  | cons event later ih =>
    cases event with
    | timeout =>
      have ended := step_timeout (.inl host) at_ (h.not_complete at_) (.inl path)
      exact ⟨1, _, by simp, run_one ended, rfl, rfl⟩
    | byte b =>
      have stored := h.step_byte (.inl host) at_ path
      have inv := invariantKeptByEveryStep _ _ h stored
      rcases State.closeIfComplete_cases (State.storeByte b { s with env := { s.env with receive := later } })
        with ⟨-, e⟩ | ⟨-, e⟩ <;> rw [e] at stored inv
      · have judged := inv.step_validate (.inl host) rfl
        exact ⟨2, _, by simp, run_of_step stored (run_one judged), by simp, by simp⟩
      · obtain ⟨k, t, bound, rest, idle, done⟩ := ih inv host at_ rfl
        exact ⟨k + 1, t, by simpa using bound, run_of_step stored rest, idle, done⟩

/-! ## The obligations -/

/-- Settles O31: the step of a byte, written as one update of the state, and what that byte does to the buffer and its
counters. -/
theorem responseByteStored : Obligations.ResponseByteStored := by
  intro s b later h host at_ next
  have sameButPath : ({ s with env := { s.env with receive := later } } : State).Inv := { h with }
  have stored := h.step_byte (.inl host) at_ next
  rw [sameButPath.storeByte_eq at_ b] at stored
  obtain ⟨cnt, buf, second, others⟩ := State.storeByte_facts b (sameButPath.room at_) (sameButPath.count (by simp [at_]))
  exact ⟨_, stored, rfl, buf, cnt, second, others⟩

/-- Settles O48: a command or the block's step takes an edge of the table; with an idle host only the block moves. -/
theorem onlyListedTransitions : Obligations.OnlyListedTransitions := by
  intro s t noReset hs
  constructor
  · rcases step_cases_of_not_reset noReset hs with ⟨later, ran⟩ | ⟨later, ran⟩ | ⟨cfg, _, _, _, -, rfl⟩
    · exact ran.transition
    · exact ran.transition.elim .inr fun stays => .inl stays.1
    · exact .inl rfl
  · intro host same
    rw [step_of_host_nil host] at hs
    exact (BlockCase.of_fetchBlock hs).transition.elim (fun taken => absurd same (ne_of_transitionTaken taken)) And.right

/-- Settles O54: the run to IDLE, where the invariant has the line LOW. -/
theorem responseWindowBoundsTheWait : Obligations.ResponseWindowBoundsTheWait := by
  intro s h host at_
  obtain ⟨k, t, bound, ran, idle, done⟩ := h.run_awaitResponse host at_
  exact ⟨k, t, bound, ran, idle, (h.run ran).dir_low (by simp [idle]) (by simp [idle]), done⟩

/-- Settles O28: the frame has the eight bytes of TXBUF. -/
theorem buildFrameStep : Obligations.BuildFrameStep := by
  intro s host at_
  exact ⟨_, step_buildFrame (.inl host) at_, rfl, toList_storeFrom_full _ s.txbuf rfl, rfl⟩

/-- Settles O29: the block's step on FLUSHED. -/
theorem flushedLeadsToReceive : Obligations.FlushedLeadsToReceive := by
  intro s n host at_ some_
  exact step_flushTransmit (.inl host) at_ some_

/-- Settles O30: TXERR decides between the two steps of RECEIVE. -/
theorem receiveStep : Obligations.ReceiveStep := by
  intro s host at_
  exact ⟨step_receive_fault host at_, step_receive (.inl host) at_⟩

/-- Settles O32: a response with fewer than two bytes, or not as many as RXEXP, is not complete. -/
theorem timeoutReported : Obligations.TimeoutReported := by
  intro s later host at_ short next
  have notDone : s.complete = false := by
    rw [Bool.eq_false_iff, ne_eq, State.complete_iff]
    rintro ⟨two, all⟩
    exact short.elim (by omega) (absurd all)
  exact step_timeout (.inl host) at_ notDone next

/-- Settles O33: the return from a failure. -/
theorem errorReportedReturns : Obligations.ErrorReportedReturns := by
  intro s host at_
  rw [step_of_advance host (by simp [at_]) (by simp [at_]), State.advance, at_]
  rfl

/-- Settles O34: IDLE and FLUSH_TRANSMIT wait. -/
theorem waitingChangesNothing : Obligations.WaitingChangesNothing := by
  intro s host
  refine ⟨fun at_ => ?_, fun at_ none_ => ?_⟩
  · rw [step_of_advance host (by simp [at_]) (by simp [at_]), State.advance, at_]
  · rw [step_of_advance host (by simp [at_]) (by simp [at_]), State.advance, at_]
    simp [State.flushWait, none_]

end Sys2Proof.Machine
end

section
/-! SUPPORT. The three forms of the CRC step agree (spec 43_crc16.md R152, R154, R160), no step loses a difference (R158(c)),
and the residue of a frame says whether its CRC is right (R157). -/

namespace Sys2Proof.Machine

/-! ## The bit-serial form (R154) -/

/-- An iteration spends the lowest bit of what was XOR-ed in as a data bit, and shifts the rest of it. -/
theorem crcShift_xor_eq_crcSerialShift (c v : Word) :
    crcShift (c ^^^ v) = crcSerialShift c (v.getLsbD 0) ^^^ v >>> 1 := by
  rw [crcShift, crcSerialShift, BitVec.getLsbD_xor, BitVec.ushiftRight_xor_distrib]
  split
  · ac_rfl
  · simp

/-- So `n` iterations spend its `n` lowest bits, least significant first. -/
theorem crcShifts_xor_eq_foldl_crcSerialShift (n : Nat) (c v : Word) :
    crcShifts n (c ^^^ v) = (List.range n).foldl (fun c i => crcSerialShift c (v.getLsbD i)) c ^^^ v >>> n := by
  induction n generalizing c v with
  | zero => simp [crcShifts]
  | succ n ih =>
    rw [crcShifts, crcShift_xor_eq_crcSerialShift, ih, ← BitVec.shiftRight_add, List.range_succ_eq_map]
    simp [List.foldl_map, Nat.add_comm 1]

/-- Of a byte eight iterations leave nothing. -/
theorem zeroExtend_ushiftRight (b : Byte) : b.zeroExtend 16 >>> 8 = 0 := by
  ext i hi
  simp

theorem crcUpdateSerial_eq (c : Word) (b : Byte) : crcUpdateSerial c b = crcUpdate c b := by
  rw [crcUpdate, crcShifts_xor_eq_foldl_crcSerialShift, zeroExtend_ushiftRight]
  simp [crcUpdateSerial, List.range_succ]

/-! ## A word through the accumulator -/

theorem hi8_zeroExtend (w : Word) : (hi8 w).zeroExtend 16 = w >>> 8 := by
  apply BitVec.eq_of_toNat_eq
  rw [BitVec.zeroExtend, BitVec.toNat_setWidth, toNat_hi8, BitVec.toNat_ushiftRight, Nat.shiftRight_eq_div_pow]
  omega

/-- A word is its low byte, and its high byte in place. -/
theorem lo8_xor_high (w : Word) : (lo8 w).zeroExtend 16 ^^^ (w >>> 8) <<< 8 = w := by
  refine BitVec.eq_of_getLsbD_eq fun i hi => ?_
  by_cases low : i < 8
  · simp [lo8, low, hi]
  · have place : 8 + (i - 8) = i := by omega
    simp [lo8, low, hi, place]

/-- Eight iterations shift the high byte down, and do nothing else to it. -/
theorem crcShifts_high (w : Word) : crcShifts 8 ((w >>> 8) <<< 8) = w >>> 8 := by
  rw [crcShifts_eq_shift fun i hi => by simp [hi]]
  refine BitVec.eq_of_getLsbD_eq fun i hi => ?_
  by_cases low : i < 8
  · have inWord : 8 + i < 16 := by omega
    simp [inWord]
  · simp [BitVec.getLsbD_of_ge w (8 + i) (by omega)]

/-- So of a word they run the low byte through the polynomial and shift the high byte down. -/
theorem crcShifts_word (w : Word) : crcShifts 8 w = crcUpdate 0 (lo8 w) ^^^ w >>> 8 := by
  conv_lhs => rw [← lo8_xor_high w, crcShifts_xor, crcShifts_high]
  simp [crcUpdate]

/-- Two bytes fed to the unit are one word XOR-ed in at once, the first its low byte. -/
theorem crcUpdate_lo8_hi8 (c w : Word) :
    crcUpdate (crcUpdate c (lo8 w)) (hi8 w) = crcShifts 8 (crcShifts 8 (c ^^^ w)) := by
  rw [crcUpdate, crcUpdate, hi8_zeroExtend, ← crcShifts_high w, ← crcShifts_xor, BitVec.xor_assoc, lo8_xor_high]

/-! ## The table form (R160) -/

/-- The printed table, entry by entry. -/
theorem getD_crcTable : ∀ i : Byte, crcTable.getD i.toNat 0 = crcUpdate 0 i := by decide

/-- The high byte of the accumulator is shifted down, and the table runs the low byte through the polynomial. -/
theorem crcUpdateTable_eq (c : Word) (b : Byte) : crcUpdateTable c b = crcUpdate c b := by
  have high : (c ^^^ b.zeroExtend 16) >>> 8 = c >>> 8 := by
    rw [BitVec.ushiftRight_xor_distrib, zeroExtend_ushiftRight]
    exact BitVec.xor_zero
  rw [crcUpdateTable, getD_crcTable, ← high, BitVec.xor_comm, ← crcShifts_word, crcUpdate]

/-! ## No step loses a difference (R158(c)) -/

theorem crcShifts_eq_zero_iff {n : Nat} {c : Word} : crcShifts n c = 0 ↔ c = 0 := by
  refine ⟨crcShifts_eq_zero, ?_⟩
  rintro rfl
  simpa using crcShifts_xor n 0 0

theorem crcShifts_injective (n : Nat) : Function.Injective (crcShifts n) := by
  intro c d same
  rw [← BitVec.xor_eq_zero_iff, ← crcShifts_xor] at same
  exact BitVec.xor_eq_zero_iff.1 (crcShifts_eq_zero same)

/-- Different accumulators stay different whatever byte is fed. -/
theorem crcUpdate_left_injective (b : Byte) : Function.Injective (crcUpdate · b) := fun _ _ same =>
  (BitVec.xor_left_inj _).1 (crcShifts_injective 8 same)

/-- Different bytes make different accumulators. -/
theorem crcUpdate_right_injective (c : Word) : Function.Injective (crcUpdate c) := by
  intro a b same
  have wide : a.zeroExtend 16 = b.zeroExtend 16 := (BitVec.xor_right_inj c).1 (crcShifts_injective 8 same)
  simpa using congrArg (BitVec.truncate 8) wide

/-- And different accumulators stay different over a whole sequence. -/
theorem foldl_crcUpdate_injective (f : List Byte) : Function.Injective (f.foldl crcUpdate) := by
  intro c d same
  induction f generalizing c d with
  | nil => exact same
  | cons b f ih => exact crcUpdate_left_injective b (ih same)

/-- Frames that differ in one byte have different CRCs. -/
theorem crc16_set_injective (f : List Byte) {i : Nat} (h : i < f.length) :
    Function.Injective fun b => crc16 (f.set i b) := by
  intro a b same
  simp only [List.set_eq_take_append_cons_drop, if_pos h, crc16_append, List.foldl_cons] at same
  exact crcUpdate_right_injective _ (foldl_crcUpdate_injective _ same)

/-! ## All-zero frames (R158(b)) -/

theorem zipWith_xor_replicate_zero {f : List Byte} {n : Nat} (h : f.length = n) :
    List.zipWith (· ^^^ ·) f (List.replicate n 0) = f := by
  apply List.ext_getElem <;> simp [h]

/-! ## The residue (R157) -/

/-- R156: a frame is what the validator runs the CRC over and the CRC received, low byte first. -/
theorem crcBody_append_receivedCrc {f : List Byte} (h : 2 ≤ f.length) :
    crcBody f ++ [lo8 (receivedCrc f), hi8 (receivedCrc f)] = f := by
  have second : f.length - 2 + 1 = f.length - 1 := by omega
  have last : f.length - 1 + 1 = f.length := by omega
  have split : f = f.take (f.length - 2) ++ [f[f.length - 2], f[f.length - 1]] := by
    conv_lhs => rw [← List.take_append_drop (f.length - 2) f]
    simp [List.drop_eq_getElem_cons, second, last, show 0 < f.length by omega]
  conv_rhs => rw [split]
  simp [crcBody, receivedCrc, show 0 < f.length by omega]

/-- The residue of a frame is the difference of the CRC computed and the CRC received, 16 iterations on. -/
theorem crc16_eq_crcShifts {f : List Byte} (h : 2 ≤ f.length) :
    crc16 f = crcShifts 8 (crcShifts 8 (crc16 (crcBody f) ^^^ receivedCrc f)) := by
  rw [← crcUpdate_lo8_hi8]
  conv_lhs => rw [← crcBody_append_receivedCrc h, crc16_append]
  rfl

theorem crcOk_iff_crc16_eq_zero {f : List Byte} (h : 2 ≤ f.length) : crcOk f = true ↔ crc16 f = 0 := by
  rw [crc16_eq_crcShifts h, crcShifts_eq_zero_iff, crcShifts_eq_zero_iff, crcOk, beq_iff_eq]
  exact BitVec.xor_eq_zero_iff.symm

/-! ## The obligations -/

/-- Settles O1: the bit-serial form spends the bits of the byte one by one. -/
theorem crcSerialFormAgrees : Obligations.CrcSerialFormAgrees := crcUpdateSerial_eq

/-- Settles O2: the table is checked entry by entry, and the step is linear in the two bytes of the accumulator. -/
theorem crcTableFormAgrees : Obligations.CrcTableFormAgrees := by
  refine ⟨fun i hi => ?_, fun c b => ?_, by decide⟩
  · simpa [Nat.mod_eq_of_lt hi] using getD_crcTable (BitVec.ofNat 8 i)
  · rw [← toNat_lo8, ← crcUpdateTable_eq, crcUpdateTable]

/-- Settles O3: a frame with its CRC appended is CRC-correct, and a frame is so if its residue is 0. -/
theorem crcResidueIsZero : Obligations.CrcResidueIsZero :=
  ⟨fun body => (crcOk_iff_crc16_eq_zero (by simp [appendCrc])).1 (crcOk_appendCrc body), fun _ => crcOk_iff_crc16_eq_zero⟩

/-- Settles O4: the CRC is linear in initial value and frame, and of the three initial values two cancel. -/
theorem crcIsAffine : Obligations.CrcIsAffine := by
  intro f g length
  rw [crc16, crc16, crc16, crc16, ← foldl_crcUpdate_xor f g length, ← foldl_crcUpdate_xor _ _ (by simp [← length]),
    zipWith_xor_replicate_zero (by simp [← length]), BitVec.xor_self, BitVec.zero_xor]

/-- Settles O5: frames that differ in one byte have different CRCs, and that of the CRC-correct one is 0. -/
theorem singleBitErrorIsCrcMismatch : Obligations.SingleBitErrorIsCrcMismatch := by
  intro fc a b f i k length ok hi hk
  have residue : crc16 (f.set i (f.getD i 0)) = 0 := by
    simpa [hi] using (crcOk_iff_crc16_eq_zero (by omega)).1 ok
  have damaged : crcOk (f.set i (f.getD i 0 ^^^ BitVec.twoPow 8 k)) = false := by
    rw [Bool.eq_false_iff, ne_eq, crcOk_iff_crc16_eq_zero (by simp; omega), ← residue]
    intro same
    have noFlip : f.getD i 0 ^^^ BitVec.twoPow 8 k = f.getD i 0 := crc16_set_injective f hi same
    simpa [hk] using congrArg (·.getLsbD k) noFlip
  rw [validate, if_pos damaged]

end Sys2Proof.Machine
end

section
/-! SUPPORT. Received frames at the validator (44_frame_codec.md R181 to R187, R190): the verdict on a frame check by check, what
a verdict leaves in the state, and the fields of each response. -/

namespace Sys2Proof.Machine

/-! ## The verdict, check by check (R181) -/

/-- R182: the CRC is checked first. -/
theorem validate_damaged {f : List Byte} (damaged : crcOk f = false) (fc : Byte) (a b : Word) :
    validate fc a b f = .failure .crcMismatch := by
  rw [validate, if_pos damaged]

section CrcCorrect
variable {f : List Byte} (ok : crcOk f = true)
include ok

/-- R183: then the exception flag. -/
theorem validate_exception {fc : Byte} (byte1 : byteAt f 1 = fc ||| Config.excFlag) (a b : Word) :
    validate fc a b f = .failure (.exceptionResponse (byteAt f 2)) := by
  rw [validate, ok, if_neg nofun, if_pos byte1]

/-- R184: then the function code. -/
theorem validate_other {fc : Byte} (normal : byteAt f 1 ≠ fc) (exception : byteAt f 1 ≠ fc ||| Config.excFlag) (a b : Word) :
    validate fc a b f = .failure .echoMismatch := by
  rw [validate, ok, if_neg nofun, if_neg exception, if_pos normal]

/-- R185: then the echo of a write. -/
theorem validate_write (byte1 : byteAt f 1 = Config.fcWrite) (a b : Word) :
    validate Config.fcWrite a b f =
      if joinBytes (byteAt f 2) (byteAt f 3) = a ∧ joinBytes (byteAt f 4) (byteAt f 5) = b then .success []
      else .failure .echoMismatch := by
  rw [validate, ok, byte1, if_neg nofun, if_neg (by decide), if_neg (by decide), if_pos rfl]
  simp only [← not_and_or, ite_not, ne_eq]

/-- R186, R187: a read's response is a Success, whatever its slave address and byte count. -/
theorem validate_read (byte1 : byteAt f 1 = Config.fcRead) (a b : Word) :
    validate Config.fcRead a b f = .success (responseWords f b) := by
  rw [validate, ok, byte1, if_neg nofun, if_neg (by decide), if_neg (by decide), if_neg (by decide)]

end CrcCorrect

/-! ## What a verdict leaves in the state (R190, R216) -/

@[simp] theorem State.conclude_result (r : TransactionResult) (s : State) :
    (s.conclude r).result = resultRegOf s.req.op r := by
  cases r <;> rfl

/-- R26: the payload of a Success is read back from RDATA. -/
theorem State.succeed_payload {p : List Word} (fits : p.length ≤ 125) (s : State) : (s.succeed p).payload = p := by
  have count : (BitVec.ofNat 8 p.length).toNat = p.length := by rw [BitVec.toNat_ofNat]; omega
  have stored := take_storeFrom p s.rdata 0 (by omega)
  rw [Nat.zero_add] at stored
  simpa [State.payload, count] using stored

/-- In VALIDATE a received frame's meaning is the verdict on its bytes. -/
theorem exec_response_of_validate {i : Instr} {f : List Byte} {s : State} (hf : encode i = .response f)
    (at_ : s.state = .validate) : exec i s =
      .next (({ s with crc := crc16 (crcBody f) } : State).conclude (validate s.req.fc s.req.a s.req.b f)) := by
  rw [exec_response s hf, State.judgeFrame_validate at_]

/-- R216: a frame that is judged a failure leaves RESULT and STATE written, and the CRC unit run. -/
theorem exec_response_failure {i : Instr} {f : List Byte} {s : State} (hf : encode i = .response f)
    (at_ : s.state = .validate) {k : ErrorKind} (verdict : validate s.req.fc s.req.a s.req.b f = .failure k) :
    exec i s = .next { s with
      crc := crc16 (crcBody f), result := resultRegOf s.req.op (.failure k), state := .idle } := by
  rw [exec_response_of_validate hf at_, verdict]
  rfl

/-! ## The classes of responses (R64 to R68) -/

/-- R68(c): register value `i` stands high byte first at byte `2i` of the values. -/
theorem getD_wordBytes_append {ws : List Word} (tail : List Byte) {i : Nat} (h : i < ws.length) :
    (wordBytes ws ++ tail).getD (2 * i) 0 = hi8 ws[i] ∧ (wordBytes ws ++ tail).getD (2 * i + 1) 0 = lo8 ws[i] := by
  induction ws generalizing i with
  | nil => cases h
  | cons w ws ih =>
    cases i with
    | zero => exact ⟨rfl, rfl⟩
    | succ i => exact ih (Nat.lt_of_succ_lt_succ h)

/-- R186: the values of a function-code-3 response are read back from its bytes, whatever the byte count says. -/
theorem responseWords_readFrame (slave byteCount : Byte) {values : List Word} (crc : Word) {b : Word}
    (length : b.toNat = values.length) : responseWords (readFrame slave byteCount values crc) b = values := by
  refine List.ext_getElem (by simp [responseWords, length]) fun i _ inside => ?_
  obtain ⟨high, low⟩ := getD_wordBytes_append [lo8 crc, hi8 crc] inside
  have first : 3 + 2 * i = 2 * i + 1 + 1 + 1 := by omega
  have second : 4 + 2 * i = 2 * i + 1 + 1 + 1 + 1 := by omega
  simp only [responseWords, List.getElem_map, List.getElem_range, responseWord, byteAt, readFrame, first, second,
    List.getD_cons_succ, high, low, joinBytes_hi8_lo8]

/-- R185: the address and value of a function-code-6 response are compared with the request's. -/
theorem validate_writeResponse (slave : Byte) (addr value a b : Word) :
    validate Config.fcWrite a b (encodeRequest slave Config.fcWrite addr value) =
      if addr = a ∧ value = b then .success [] else .failure .echoMismatch := by
  have ok : crcOk (encodeRequest slave Config.fcWrite addr value) = true := crcOk_appendCrc _
  rw [validate_write ok rfl]
  simp [encodeRequest, appendCrc, requestBody, byteAt]

/-- R183, R204: an exception response to the request is a failure with its code. -/
theorem exec_exceptionResponse {i : Instr} {slave fc code : Byte} {s : State}
    (hf : encode i = .response (appendCrc [slave, fc ||| Config.excFlag, code])) (at_ : s.state = .validate)
    (function : s.req.fc = fc) : exec i s = .next { s with
      crc := crc16 [slave, fc ||| Config.excFlag, code]
      result := resultRegOf s.req.op (.failure (.exceptionResponse code)), state := .idle } := by
  subst function
  exact exec_response_failure hf at_ (validate_exception (crcOk_appendCrc _) rfl ..)

/-- Byte 1 of a row of the other function code is neither of the two that answer the request (R67, R181). -/
theorem byte1_of_foreign {i : Instr} {f : List Byte} {fc : Byte} (hf : encode i = .response f)
    (function : fc = Config.fcRead ∨ fc = Config.fcWrite) (foreign : i.receivedUnder fc = false)
    (row : ∀ slave function rest, i ≠ .otherFunctionByte slave function rest) :
    byteAt f 1 ≠ fc ∧ byteAt f 1 ≠ fc ||| Config.excFlag := by
  cases i with
  | fc3Response | exceptionResponseFc3 =>
    cases hf
    obtain rfl := function.resolve_left (by simpa [Instr.receivedUnder] using foreign)
    simp [byteAt, readFrame, frame5]
  | fc6Response | exceptionResponseFc6 =>
    cases hf
    obtain rfl := function.resolve_right (by simpa [Instr.receivedUnder] using foreign)
    simp [byteAt, frame8, frame5]
  | otherFunctionByte slave function rest => exact absurd rfl (row slave function rest)
  | _ => cases hf

/-! ## The obligations -/

/-- Settles O21: the frame is one whose CRC its sender appended, and its values are read back. -/
theorem readResponseDecoded : Obligations.ReadResponseDecoded := by
  intro slave byteCount values s at_ read count fits
  have frame : readFrame slave byteCount values (crc16 (slave :: 3 :: byteCount :: wordBytes values)) =
    appendCrc (slave :: 3 :: byteCount :: wordBytes values) := rfl
  have verdict : validate s.req.fc s.req.a s.req.b (appendCrc (slave :: 3 :: byteCount :: wordBytes values)) =
      .success values := by
    rw [read, validate_read (crcOk_appendCrc _) rfl, ← frame, responseWords_readFrame _ _ _ count]
  refine ⟨_, exec_response_of_validate rfl at_, ?_⟩
  rw [frame, verdict, crcBody_appendCrc]
  exact ⟨rfl, State.succeed_payload fits _, fun j behind =>
    getElem_storeFrom_outside values s.rdata 0 j j.isLt (.inr (by omega))⟩

/-- Settles O22: the CRC is checked before anything else. -/
theorem damagedFrameIsCrcMismatch : Obligations.DamagedFrameIsCrcMismatch := fun _ _ _ hf at_ damaged =>
  exec_response_failure hf at_ (validate_damaged damaged ..)

/-- Settles O26: such a frame's byte 1 answers no request of the other function code. -/
theorem foreignClassIsEchoMismatch : Obligations.ForeignClassIsEchoMismatch := by
  intro i f s hf at_ function foreign row ok
  obtain ⟨normal, exception⟩ := byte1_of_foreign hf function foreign row
  exact exec_response_failure hf at_ (validate_other ok normal exception ..)

/-- Settles O23: the frame's address and value are compared with the latches. -/
theorem writeEchoJudged : Obligations.WriteEchoJudged := by
  intro slave addr value s at_ write
  have frame : encode (.fc6Response slave addr value (crc16 (requestBody slave Config.fcWrite addr value))) =
    .response (encodeRequest slave Config.fcWrite addr value) := rfl
  refine (exec_response_of_validate frame at_).trans (congrArg _ ?_)
  rw [write, validate_writeResponse, encodeRequest, crcBody_appendCrc]
  split <;> rfl

/-- Settles O24: each row's byte 1 is its function code with the exception flag. -/
theorem exceptionResponseReported : Obligations.ExceptionResponseReported := fun _ _ _ at_ =>
  ⟨exec_exceptionResponse (fc := Config.fcRead) rfl at_, exec_exceptionResponse (fc := Config.fcWrite) rfl at_⟩

/-- Settles O25: after the CRC and the exception flag the function code decides. -/
theorem otherFunctionByteIsEchoMismatch : Obligations.OtherFunctionByteIsEchoMismatch :=
  fun _ _ _ _ at_ normal exception ok => exec_response_failure rfl at_ (validate_other ok normal exception ..)

end Sys2Proof.Machine
end

section
/-! SUPPORT. A whole transaction as one run for every write outcome and every list of response bytes (42_transaction_sequencer.md
R135, R136; 44_frame_codec.md R191): it ends with `conclude` of the outcome, from a state that has the trace of R136. -/

namespace Sys2Proof.Machine

/-! ## The outcome by what the environment gives (R191) -/

theorem outcome_of_incomplete {fc : Byte} {b : Word} {rx : List Byte} (short : responseComplete fc b rx = false) (a : Word) :
    outcome fc a b .ok rx = .failure .timeout := by
  rw [outcome, ← ite_or, if_pos]
  simp only [responseComplete, Bool.and_eq_false_iff, decide_eq_false_iff_not] at short
  omega

theorem outcome_of_complete {fc : Byte} {b : Word} {rx : List Byte} (done : responseComplete fc b rx = true) (a : Word) :
    outcome fc a b .ok rx = validate fc a b (rx.take (expectedLength fc b (byteAt rx 1))) := by
  simp only [responseComplete, Bool.and_eq_true, decide_eq_true_eq] at done
  rw [outcome, if_neg (by omega), if_neg (by omega)]

/-- R130: a complete response is what the receive path shows up to the expected length. -/
theorem receiveScript_of_complete {fc : Byte} {b : Word} {rx : List Byte} (done : responseComplete fc b rx = true) :
    receiveScript fc b rx = (rx.take (expectedLength fc b (byteAt rx 1))).map .byte ++ receiveLeft fc b rx := by
  rw [receiveLeft, if_pos done, ← List.map_append, List.take_append_drop, receiveScript, if_pos done, List.append_nil]

/-- R111(b), R191: the payload of a transaction fits RDATA. -/
theorem length_le_of_outcome_success {fc : Byte} {a b : Word} {txo : WriteOutcome} {rx : List Byte} {p : List Word}
    (count : fc = Config.fcRead → countLegal b = true) (function : fc = Config.fcRead ∨ fc = Config.fcWrite)
    (success : outcome fc a b txo rx = .success p) : p.length ≤ 125 := by
  cases txo with
  | fault k => cases success
  | ok =>
    cases done : responseComplete fc b rx with
    | false => rw [outcome_of_incomplete done] at success; cases success
    | true => rw [outcome_of_complete done] at success; exact length_le_of_validate_success count function success

/-! ## The end of a transaction -/

/-- `u` is `s` further on in its transaction: the wire has shown `es`, `env` is what is left of the environment's lists, and
nothing outside the sequencer has changed. -/
structure State.FurtherOn (u s : State) (es : List WireEvent) (env : Env) : Prop where
  trace : u.trace = s.trace ++ es
  env : u.env = env
  cfg : u.cfg = s.cfg
  init : u.init = s.init
  req : u.req = s.req
  host : u.host = s.host
  params : u.params = s.params
  replies : u.replies = s.replies

/-- What is left of the environment's lists after a transaction (R92, R93, R130). -/
def envLeft (fc : Byte) (b : Word) (txo : WriteOutcome) (rx : List Byte) (writes : List WriteOutcome) (n : Nat)
    (later : List ReceiveEvent) : Env :=
  match txo with
  | .ok => { writes := writes, flushes := n, receive := receiveLeft fc b rx ++ later }
  | .fault _ => { writes := writes, flushes := n + 1, receive := receiveScript fc b rx ++ later }

@[simp] theorem State.conclude_params (r : TransactionResult) (s : State) : (s.conclude r).params = s.params := by
  cases r <;> rfl
@[simp] theorem State.conclude_replies (r : TransactionResult) (s : State) : (s.conclude r).replies = s.replies := by
  cases r <;> rfl

/-- R127: RECEIVE after a transmit fault ends the transaction with IoError. -/
theorem step_receive_ioError {s : State} (waits : s.hostWaits) (at_ : s.state = .receive) (fault : s.txErr = true) :
    step s = .next (s.conclude (.failure .ioError)) := by
  rw [step_of_hostWaits waits (by simp [at_]), State.fetchBlock_advance (by simp [at_]) (by simp [at_]), State.advance, at_,
    State.conclude]
  simp [Fetched.outcome, State.receiveTurn, fault]

/-- R125: TRANSMIT sends the bytes before the fault. -/
theorem State.Inv.step_transmit_fault {s : State} (h : s.Inv) (waits : s.hostWaits) (at_ : s.state = .transmit) {k : Fin 9}
    {writes : List WriteOutcome} (env : s.env.writes = .fault k :: writes) : step s = .next { s with
      env := { s.env with writes := writes }, txErr := true, state := .receive, dir := .low
      trace := s.trace ++ (txEvents ((encodeRequest s.cfg.slaveAddr s.req.fc s.req.a s.req.b).take k.val) ++
        [.txFault, .dir .low]) } := by
  obtain ⟨t, ran⟩ := h.fetchBlock_next
  rw [step_of_hostWaits waits (by simp [at_]), ran]
  cases BlockCase.of_fetchBlock ran with
  | transmit => rw [h.frame (.inl at_), State.writeBytes_fault env]
  | validate val => simp [at_] at val
  | advance off => exact absurd at_ off

section Transaction
variable {s : State} (h : s.Inv) (waits : s.hostWaits) (at_ : s.state = .buildFrame) {writes : List WriteOutcome} {n : Nat}
include h waits at_

/-- R125, R127: a transmit fault ends the transaction with IoError; nothing is received. -/
theorem State.Inv.run_transmitFault {k : Fin 9} {receive : List ReceiveEvent}
    (env : s.env = { writes := .fault k :: writes, flushes := n, receive := receive }) :
    ∃ u : State, core.run 3 s = .next (u.conclude (.failure .ioError)) ∧
      u.FurtherOn s (.dir .high :: (txEvents ((encodeRequest s.cfg.slaveAddr s.req.fc s.req.a s.req.b).take k.val) ++
        [.txFault, .dir .low])) { writes := writes, flushes := n, receive := receive } := by
  have built := step_buildFrame waits at_
  have sent := (invariantKeptByEveryStep _ _ h built).step_transmit_fault waits rfl (congrArg Env.writes env)
  refine ⟨_, run_of_step built <| run_of_step sent <| run_one (step_receive_ioError (by exact waits) rfl rfl), ?_⟩
  constructor <;> simp [env]

/-- R122 to R128: with the write ok and FLUSHED to come, the window opens with no byte stored. -/
theorem State.Inv.run_toWindow (write : s.env.writes = .ok :: writes) (flush : s.env.flushes = n + 1) :
    core.run 4 s = .next (s.transmitted writes n) ∧ (s.transmitted writes n).Awaits [] := by
  have sent := h.run_transmitPhase waits at_ write flush
  exact ⟨sent, h.run sent, rfl, List.take_zero ..⟩

/-- R129, R131: bytes that do not complete the response are taken, and TIMEOUT ends the transaction. -/
theorem State.Inv.run_incomplete {rx : List Byte} {later : List ReceiveEvent}
    (env : s.env = { writes := .ok :: writes, flushes := n + 1, receive := rx.map .byte ++ .timeout :: later })
    (short : responseComplete s.req.fc s.req.b rx = false) :
    ∃ (k : Nat) (u : State), core.run k s = .next (u.conclude (.failure .timeout)) ∧
      u.FurtherOn s (.dir .high :: (txEvents (encodeRequest s.cfg.slaveAddr s.req.fc s.req.a s.req.b) ++
        [.flushed, .dir .low] ++ (rx.map .rx ++ [.timeout]))) { writes := writes, flushes := n, receive := later } := by
  obtain ⟨sent, awaits⟩ := h.run_toWindow waits at_ (congrArg Env.writes env) (congrArg Env.flushes env)
  obtain ⟨buf, cnt, exp, taken, awaits'⟩ := awaits.run_bytes waits rx (congrArg Env.receive env) short
  have ended := step_timeout (by exact waits) awaits'.at_ (awaits'.inv.not_complete awaits'.at_) (.inl rfl)
  refine ⟨_, _, run_add sent (run_add taken (run_one ended)), ?_⟩
  constructor <;> simp [State.took, State.transmitted]

/-- R129, R130, R133: a response of the expected length is taken and judged; the bytes after it stay in the transport. -/
theorem State.Inv.run_complete {rx : List Byte} {later : List ReceiveEvent}
    (env : s.env = { writes := .ok :: writes, flushes := n + 1, receive := rx.map .byte ++ later })
    (length : rx.length = expectedLength s.req.fc s.req.b (byteAt rx 1)) :
    ∃ (k : Nat) (u : State), core.run k s = .next (u.conclude (validate s.req.fc s.req.a s.req.b rx)) ∧
      u.FurtherOn s (.dir .high :: (txEvents (encodeRequest s.cfg.slaveAddr s.req.fc s.req.a s.req.b) ++
        [.flushed, .dir .low] ++ rx.map .rx)) { writes := writes, flushes := n, receive := later } := by
  obtain ⟨sent, awaits⟩ := h.run_toWindow waits at_ (congrArg Env.writes env) (congrArg Env.flushes env)
  obtain ⟨buf, cnt, exp, received, frame⟩ := awaits.run_response waits (congrArg Env.receive env) length
  have toValidate := run_add sent received
  have judged := (h.run toValidate).step_validate waits rfl
  rw [frame] at judged
  refine ⟨_, _, run_add toValidate (run_one judged), ?_⟩
  constructor <;> simp [State.close, State.took, State.transmitted]

/-- R135, R136, R191: every transaction ends with its outcome. -/
theorem State.Inv.run_outcome {txo : WriteOutcome} {rx : List Byte} {later : List ReceiveEvent}
    (env : s.env = { writes := txo :: writes, flushes := n + 1
                     receive := receiveScript s.req.fc s.req.b rx ++ later }) :
    ∃ (k : Nat) (u : State), core.run k s = .next (u.conclude (outcome s.req.fc s.req.a s.req.b txo rx)) ∧
      u.FurtherOn s (transactionTrace (encodeRequest s.cfg.slaveAddr s.req.fc s.req.a s.req.b) s.req.fc s.req.b txo rx)
        (envLeft s.req.fc s.req.b txo rx writes n later) := by
  cases txo with
  | fault k => exact ⟨3, h.run_transmitFault waits at_ env⟩
  | ok =>
    cases done : responseComplete s.req.fc s.req.b rx with
    | false =>
      simp only [outcome_of_incomplete done, transactionTrace, receiveTrace, envLeft, receiveLeft, done]
      exact h.run_incomplete waits at_ (by simpa [receiveScript, done] using env) done
    | true =>
      have five := (expectedLength_bounds (byteAt rx 1) (h.count (by simp [at_]))).1
      have enough : expectedLength s.req.fc s.req.b (byteAt rx 1) ≤ rx.length := by
        simp only [responseComplete, Bool.and_eq_true, decide_eq_true_eq] at done
        exact done.2
      rw [receiveScript_of_complete done, List.append_assoc] at env
      rw [outcome_of_complete done, transactionTrace, receiveTrace, if_pos done]
      refine h.run_complete waits at_ env ?_
      rw [byteAt_take (by omega), List.length_take, Nat.min_eq_left enough]

end Transaction

/-! ## The obligation -/

/-- Settles O53: the run to the outcome; the invariant has the line LOW and the window closed at its end. -/
theorem transactionRunsToItsOutcome : Obligations.TransactionRunsToItsOutcome := by
  intro s txo writes rx n later h waits at_ env
  have busy : s.state ≠ .idle := by simp [at_]
  obtain ⟨k, u, ran, further⟩ := h.run_outcome waits at_ env
  have inv := h.run ran
  refine ⟨k, _, ran, State.conclude_state .., inv.dir_low (by simp) (by simp), inv.window_closed (by simp), ?_, ?_, ?_⟩
  · rw [State.conclude_result, further.req]
  · intro p success
    rw [success]
    exact State.succeed_payload (length_le_of_outcome_success (h.count busy) (h.function busy) success) u
  · simp only [State.conclude_trace, State.conclude_env, State.conclude_cfg, State.conclude_init, State.conclude_req,
      State.conclude_host, State.conclude_params, State.conclude_replies]
    exact ⟨further.trace, further.env, further.cfg, further.init, further.req, further.host, further.params, further.replies⟩

end Sys2Proof.Machine
end

section
/-! SUPPORT. Reset from any state and the faults (70_reset_and_hazards.md R240, R241, R250): no instruction and no step of the
block faults, so that a fault comes from an outside agent's action alone (log entry 13). -/

namespace Sys2Proof.Machine

/-! ## What cannot fault -/

theorem exec_ne_fault (i : Instr) (s : State) (r : Fault) : exec i s ≠ .fault r := by
  obtain ⟨t, ran⟩ := exec_next i s
  simp [ran]

/-- Bytes that are no frame are refused (log entry 11). -/
theorem Fetched.ofDecoded_ne_fault (s : State) (d : Except DecodeError Instr) (r : Fault) :
    (Fetched.ofDecoded s d).outcome ≠ .fault r := by
  cases d with
  | ok i => exact exec_ne_fault i s r
  | error e => exact nofun

theorem State.fetchBlock_ne_fault (s : State) (r : Fault) : s.fetchBlock.outcome ≠ .fault r := by
  by_cases tx : s.state = .transmit
  · rw [State.fetchBlock_transmit tx]
    exact Fetched.ofDecoded_ne_fault s _ r
  by_cases val : s.state = .validate
  · rw [State.fetchBlock_validate val]
    exact Fetched.ofDecoded_ne_fault s _ r
  · rw [State.fetchBlock_advance tx val]
    exact nofun

/-! ## The fault -/

theorem step_of_violation {s : State} {v : Violation} {later : List Action} (h : s.host = .violation v :: later) :
    step s = .fault (.preconditionBroken v) := by
  rw [step_eq, State.fetch, h]; rfl

/-- Of the host's actions only a violation faults (R219). -/
theorem violation_of_step_fault {s : State} {r : Fault} (stopped : step s = .fault r) :
    ∃ v later, s.host = .violation v :: later := by
  match hs : s.host with
  | [] => exact absurd (step_of_host_nil hs ▸ stopped) (s.fetchBlock_ne_fault r)
  | .command w :: later => exact absurd (step_of_command hs ▸ stopped) (exec_ne_fault _ _ r)
  | .writeReg n v :: later => cases (step_of_writeReg hs).symm.trans stopped
  | .readReg n :: later => cases (step_of_readReg hs).symm.trans stopped
  | .reset sent :: later => cases (step_of_reset hs).symm.trans stopped
  | .letRun :: later => exact absurd (step_of_letRun hs ▸ stopped) (State.fetchBlock_ne_fault _ r)
  | .awaitReady :: later =>
    by_cases idle : s.state = .idle
    · cases (step_of_awaitReady_idle hs idle).symm.trans stopped
    · exact absurd (step_of_awaitReady_busy hs idle ▸ stopped) (s.fetchBlock_ne_fault r)
  | .violation v :: later => exact ⟨v, later, rfl⟩

/-! ## The obligations -/

/-- Settles O40: a violation faults by name, and a step that faults met one. -/
theorem onlyBrokenPreconditionsFault : Obligations.OnlyBrokenPreconditionsFault := by
  refine fun s => ⟨fun v later met => step_of_violation met, fun r stopped => ?_⟩
  obtain ⟨v, later, met⟩ := violation_of_step_fault stopped
  have named := (step_of_violation met).symm.trans stopped
  exact ⟨v, later, met, (Host.Outcome.fault.inj named).symm⟩

/-- Settles O39: the step on reset is `State.assertReset`, which is the reset state with what is outside the block kept. -/
theorem resetInputFromAnyState : Obligations.ResetInputFromAnyState := fun _ _ _ asserted => step_of_reset asserted

end Sys2Proof.Machine
end

section
/-! SUPPORT. What every instruction does in every state: it answers a next state, and a frame outside the state that runs it
answers the state it met (42_transaction_sequencer.md section 1; log entries 5, 9, 22). -/

namespace Sys2Proof.Machine

/-! ## Frames outside their state (R120) -/

/-- Outside TRANSMIT a request frame's meaning is to do nothing. -/
theorem exec_request_of_ne_transmit {i : Instr} {f : List Byte} {s : State} (hf : encode i = .request f)
    (off : s.state ≠ .transmit) : exec i s = .next s := by
  rw [exec_request s hf, State.transmitFrame, if_neg off]

/-- Outside VALIDATE a received frame's meaning is to do nothing. -/
theorem exec_response_of_ne_validate {i : Instr} {f : List Byte} {s : State} (hf : encode i = .response f)
    (off : s.state ≠ .validate) : exec i s = .next s := by
  rw [exec_response s hf, State.judgeFrame, if_neg off]

/-! ## The obligations -/

/-- Settles O27: a request frame tests for TRANSMIT and a received frame for VALIDATE before anything else. -/
theorem framesRunInTheirStateOnly : Obligations.FramesRunInTheirStateOnly :=
  fun _ _ _ => ⟨exec_request_of_ne_transmit, exec_response_of_ne_validate⟩

/-- Settles O42: each arm of `exec` ends in a next state. -/
theorem everyInstructionRuns : Obligations.EveryInstructionRuns := exec_next

end Sys2Proof.Machine
end
